-- ==== Sys2Proof/Word.lean ====
section
/-! DEFINITION. The two word types of the machine (00_scope.md rules R7 and R9): the byte the bus moves
and the 16-bit word that SP, PC, the register pairs and the addresses hold. -/

namespace Sys2Proof

/-- An unsigned 8-bit value (`u8` of rule R9). -/
abbrev Byte := BitVec 8

/-- An unsigned 16-bit value (`u16` of rule R9): an address, SP, PC or a register pair. -/
abbrev Word := BitVec 16

end Sys2Proof
end

