-- ==== Sys2Proof/WellFormed.lean ====
section
/-! DEFINITION. Which terms of `Instr` stand for bytes a program can hold. Two checks: an `illegal` term carries one
of the eleven unassigned opcode bytes (R182), and the CB prefix by itself is no instruction (R314): the pair
it makes with its second byte is one of the 256 CB constructors. -/

namespace Sys2Proof

/-- The eleven unassigned opcode bytes (30_encoding.md rule R182). -/
def illegalOpcodes : List Byte :=
  [0xD3, 0xDB, 0xDD, 0xE3, 0xE4, 0xEB, 0xEC, 0xED, 0xF4, 0xFC, 0xFD]

/-- R182: an illegal row is one of the eleven bytes. Every other term passes this check. -/
def Instr.illegalByteOk : Instr → Bool
  | .illegal op => illegalOpcodes.contains op
  | _ => true

/-- R314: "The prefix byte alone is not an instruction". Every other term passes this check. -/
def Instr.notBarePrefix : Instr → Bool
  | .prefixCb _ => false
  | _ => true

/-- The term is the reading of some byte sequence of the program (both checks). -/
def Instr.wf (i : Instr) : Bool := i.illegalByteOk && i.notBarePrefix

end Sys2Proof
end

