-- ==== Sys2Proof/Config.lean ====
section
/-! DEFINITION. What the machine fixes once: the constants of 00_scope.md rule R7, and the two launch
parameters of rule R8 that the spec leaves open and that no proof may see a value of. -/

namespace Sys2Proof.Config

/-- Cycles per second of the one shared clock (R7). -/
def clockHz : Nat := 4194304

/-- Cycles (dots) of one scanline (R7, R450). -/
def dotsPerLine : Nat := 456

/-- Scanlines of one frame, 0 to 153 (R7). -/
def linesPerFrame : Nat := 154

/-- The first scanline of VBlank: lines 0 to 143 are visible (R7). -/
def visibleLines : Nat := 144

/-- Pixels of one row of the screen (R7). -/
def screenWidth : Nat := 160

/-- Entries of the sprite table (R7). -/
def oamEntries : Nat := 40

/-- One less than `P_SAMPLE_RATE`, which rule R8 leaves OPEN between 1 and 4,194,304 samples per
second. Opaque: no proof can rest on a value. DESIGN CHOICE (log 4): the reset state takes it from here. -/
opaque sampleRatePred : Fin 4194304

/-- One less than `P_BATCH`, which rule R8 leaves OPEN (at least 1). Opaque, as `sampleRatePred` (log 4). -/
opaque batchPred : Nat

/-- `P_SAMPLE_RATE` of the reset state: some number with 0 < rate <= 4,194,304 (R8, D41). -/
def sampleRate : Nat := sampleRatePred.val + 1

/-- `P_BATCH` of the reset state: some number, at least 1 (R8, D41). -/
def batchSize : Nat := batchPred + 1

end Sys2Proof.Config
end

