-- ==== Sys2Proof/Machine/State.lean ====
section
/-! DEFINITION. The one aggregate of 10_state.md rule R30 as plain data, the ways a step can stop, and the state
right after reset (70_reset_and_hazards.md rules R550 and R551). -/

namespace Sys2Proof.Machine

/-- The interrupt master enable, a three-valued scheduling value (R37). -/
inductive Ime where
  /-- 0: disabled -/
  | disabled
  /-- 1: enabled, the only value that lets Service dispatch -/
  | enabled
  /-- 2: "enable after next instruction" -/
  | pending
  deriving DecidableEq, Repr

/-- The CPU registers (R31 to R37). The pairs AF, BC, DE and HL are views of the bytes (R32), not storage. -/
structure Cpu where
  a : Byte
  /-- The flag register; its low nibble is always 0 (R33). -/
  f : Byte
  b : Byte
  c : Byte
  d : Byte
  e : Byte
  h : Byte
  l : Byte
  sp : Word
  pc : Word
  ime : Ime
  halted : Bool
  deriving DecidableEq, Repr

/-- One storage array: cells with strictly rising addresses, none holding `unlistedByte`. -/
abbrev Mem := List Host.Cell

/-- The storage arrays of R80 and the two palette RAMs of R81. -/
inductive Store where
  /-- `M`, the flat logical view: VRAM bank 0, WRAM bank 0, OAM, I/O bytes, HRAM, IE, general memory -/
  | m
  /-- `VRAM1`, offset 0 to 0x1FFF -/
  | vram1
  /-- `WRAMX[b]` for b = 1 to 7, at index `b * 0x1000 + offset` -/
  | wramx
  /-- `ERAM`, the cartridge's external RAM -/
  | eram
  /-- `P_ROM`, the cartridge image, read-only -/
  | rom
  /-- `BGPAL`, 64 bytes -/
  | bgpal
  /-- `OBJPAL`, 64 bytes -/
  | objpal
  deriving DecidableEq, Repr

/-- Every byte cell of the machine (R80, R81), one array each. -/
structure Memory where
  m : Mem
  vram1 : Mem
  wramx : Mem
  eram : Mem
  rom : Mem
  bgpal : Mem
  objpal : Mem
  deriving DecidableEq, Repr

/-- The bank controller of the cartridge (R112). -/
inductive Mapper where
  | romOnly
  | mbc1
  deriving DecidableEq, Repr

/-- The cartridge profile: the three header bytes and the values derived from them at load, immutable after it,
and the length of the image (R76). -/
structure Cartridge where
  cartType : Byte
  ramSize : Byte
  cgbFlag : Byte
  mapper : Mapper
  eramBytes : Nat
  colorMode : Bool
  romLen : Nat
  deriving DecidableEq, Repr

/-- The MBC1 banking state (R75). A ROM-only cartridge ignores it. -/
structure Mbc1 where
  ramEn : Bool
  /-- Never 0: a written 0 is stored as 1. -/
  bankLo : BitVec 5
  bankHi : BitVec 2
  /-- false: ROM banking; true: RAM banking -/
  mode : Bool
  deriving DecidableEq, Repr

/-- The PPU modes; STAT shows them as 0, 1, 2, 3 (R78). -/
inductive PpuMode where
  | hBlank
  | vBlank
  | oamScan
  | drawing
  deriving DecidableEq, Repr

/-- The PPU timing state (R78). -/
structure Ppu where
  /-- cycles since the last scanline boundary, 0 to 455 -/
  dot : Nat
  /-- current scanline, 0 to 153 -/
  ly : Nat
  mode : PpuMode
  /-- the LY == LYC result of the last advance -/
  coinc : Bool
  deriving DecidableEq, Repr

/-- One pulse channel of the APU (R79). Channel 2 has no sweep. -/
structure Channel where
  en : Bool
  phase : BitVec 3
  freq : BitVec 11
  ftimer : Nat
  vol : BitVec 4
  etimer : Nat
  ltimer : Nat
  deriving DecidableEq, Repr

/-- The sweep fields of channel 1 (R79). -/
structure Sweep where
  shadow : BitVec 11
  stimer : Nat
  deriving DecidableEq, Repr

/-- One stereo sample, an integer from −240 to +240 per side (R506, D52). -/
structure Sample where
  left : Int
  right : Int
  deriving DecidableEq, Repr

/-- The APU state (R79): two channels, the sample accumulator, and the pending batch, oldest sample first. -/
structure Apu where
  ch1 : Channel
  sweep : Sweep
  ch2 : Channel
  acc : Nat
  batch : List Sample
  deriving DecidableEq, Repr

/-- One value of a frame (R471): a shade 0 to 3 in monochrome mode, an RGB555 colour in Color mode. -/
inductive Pixel where
  | shade (v : BitVec 2)
  | rgb (v : BitVec 15)
  deriving DecidableEq, Repr

/-- A frame: 144 rows of 160 pixels, row 0 at the top, column 0 at the left (R471). -/
abbrev Frame := List (List Pixel)

/-- The fault record's contents (R84): the opcode byte and the address it was fetched from. -/
structure FaultRecord where
  op : Byte
  addr : Word
  deriving DecidableEq, Repr

/-- The eight buttons, in the bit order of `pressed` (R441). -/
inductive Button where
  | right | left | up | down | a | b | select | start
  deriving DecidableEq, Repr

/-- What the host can send between system steps (R440). -/
inductive InputEvent where
  | press (btn : Button)
  | release (btn : Button)
  | quit
  deriving DecidableEq, Repr

/-- The launch parameters of R8 that the step reads: the schedule `P_INPUT`, `P_SAMPLE_RATE` and `P_BATCH`. The
model's own fields (log 4, log 6). -/
structure Launch where
  /-- `P_INPUT`: the events of each coming step boundary, the next boundary first -/
  input : List (List InputEvent)
  /-- a quit event has been applied (R445) -/
  quit : Bool
  sampleRate : Nat
  batchSize : Nat
  deriving DecidableEq, Repr

/-- What the step hands to the host (R442, R443). The model's own fields: each step starts by emptying them (log 5). -/
structure Output where
  /-- the frame emitted during the last step, if any -/
  frame : Option Frame
  /-- the sample batches completed during the last step, oldest first -/
  audio : List (List Sample)
  deriving DecidableEq, Repr

/-- The machine state (R30). -/
structure State where
  cpu : Cpu
  mem : Memory
  cart : Cartridge
  mbc : Mbc1
  /-- the timer's free-running 16-bit counter (R77) -/
  divider : Word
  ppu : Ppu
  apu : Apu
  /-- the joypad state, bit k = 1 when button k is held (R441) -/
  pressed : Byte
  /-- the fault record (R84) -/
  fault : Option FaultRecord
  /-- the cycle cost the last CPU step returned (R171): the model's own field (log 7) -/
  cycles : Nat
  launch : Launch
  out : Output
  deriving DecidableEq, Repr

/-- Why the machine stops. -/
inductive Fault where
  /-- Raised by `step` on a state whose fault record is set: "the machine takes no further system step" (R84, R420). The
  record was written by the step that fetched the illegal byte. Safe: the spec names this stop. -/
  | unknownOpcode (op : Byte) (addr : Word)
  deriving DecidableEq, Repr

/-- Why there is no meaning for what was asked. -/
inductive Refusal where
  /-- Raised by `exec` for an instruction that has no meaning yet. Safe. No arm uses it. -/
  | notModelled (mnemonic : String)
  /-- Raised by `load`: FatalLoadError, the image is missing or shorter than 0x150 bytes (R553). Safe: the spec's own refusal. -/
  | fatalLoadError
  /-- Raised by `load`: the header names a cartridge type outside R112. Safe: the spec's own refusal. -/
  | unsupportedCartridgeType (cartType : Byte)
  /-- Raised by `load`: the header names a RAM size outside R112. Safe: the spec's own refusal. -/
  | unsupportedRamSize (ramSize : Byte)
  deriving DecidableEq, Repr

/-! ## Reset -/

/-- R39, the monochrome column. -/
def Cpu.resetMono : Cpu :=
  { a := 0x01, f := 0xB0, b := 0x00, c := 0x13, d := 0x00, e := 0xD8, h := 0x01, l := 0x4D,
    sp := 0xFFFE, pc := 0x0100, ime := .disabled, halted := false }

/-- R39, the Color mode column. -/
def Cpu.resetColor : Cpu :=
  { a := 0x11, f := 0x80, b := 0x00, c := 0x00, d := 0xFF, e := 0x56, h := 0x00, l := 0x0D,
    sp := 0xFFFE, pc := 0x0100, ime := .disabled, halted := false }

/-- R550 item 4, R75. -/
def Mbc1.reset : Mbc1 := { ramEn := false, bankLo := 1, bankHi := 0, mode := false }

/-- R550 item 6, R78. -/
def Ppu.reset : Ppu := { dot := 0, ly := 0, mode := .oamScan, coinc := true }

/-- R550 item 7: a channel record of zeros. -/
def Channel.reset : Channel :=
  { en := false, phase := 0, freq := 0, ftimer := 0, vol := 0, etimer := 0, ltimer := 0 }

/-- R550 item 7, R79. -/
def Apu.reset : Apu :=
  { ch1 := Channel.reset, sweep := { shadow := 0, stimer := 0 }, ch2 := Channel.reset, acc := 0, batch := [] }

/-- The bytes of `M` that R551 fixes to a value other than 0x00, lowest address first. The bytes that R551 fixes to
0x00 need no entry, because an unlisted byte reads as 0x00 (log 1). -/
def resetIo : Mem :=
  [(0xFF00, 0xFF), (0xFF02, 0x7E), (0xFF07, 0xF8), (0xFF0F, 0xE1), (0xFF10, 0x80), (0xFF11, 0xBF),
   (0xFF12, 0xF3), (0xFF13, 0xFF), (0xFF14, 0xBF), (0xFF16, 0x3F), (0xFF18, 0xFF), (0xFF19, 0xBF),
   (0xFF1A, 0x7F), (0xFF1B, 0xFF), (0xFF1C, 0x9F), (0xFF1D, 0xFF), (0xFF1E, 0xBF)] ++
  [(0xFF20, 0xFF), (0xFF23, 0xBF), (0xFF24, 0x77), (0xFF25, 0xF3), (0xFF26, 0xF1), (0xFF40, 0x91),
   (0xFF41, 0x80), (0xFF46, 0xFF), (0xFF47, 0xFC)]

/-- The profile of the image the reset state holds: 32 KiB of 0x00, so ROM-only, no external RAM, monochrome. It is the
default image of 95_test_vectors.md parts 3 and 4. DESIGN CHOICE (log 2). -/
def Cartridge.reset : Cartridge :=
  { cartType := 0x00, ramSize := 0x00, cgbFlag := 0x00, mapper := .romOnly, eramBytes := 0, colorMode := false,
    romLen := 0x8000 }

/-- The machine right after reset (R550), for the image of `Cartridge.reset`, `P_INIT_MEM` all zero (log 1) and an empty
input schedule (log 6). `load` builds the reset machine of any launch. -/
def State.reset : State :=
  { cpu := Cpu.resetMono
    mem := { m := resetIo, vram1 := [], wramx := [], eram := [], rom := [], bgpal := [], objpal := [] }
    cart := Cartridge.reset
    mbc := Mbc1.reset
    divider := 0
    ppu := Ppu.reset
    apu := Apu.reset
    pressed := 0
    fault := none
    cycles := 0
    launch := { input := [], quit := false, sampleRate := Config.sampleRate, batchSize := Config.batchSize }
    out := { frame := none, audio := [] } }

end Sys2Proof.Machine
end

