-- ==== Sys2Proof/Machine/Bits.lean ====
section
/-! DEFINITION. The bit, byte-order and sign-extension helpers of 00_scope.md rules R9 and R10. -/

namespace Sys2Proof.Machine

/-- Bits 7 to 0 of a word (R9). -/
def loByte (v : Word) : Byte := v.setWidth 8

/-- Bits 15 to 8 of a word (R9). -/
def hiByte (v : Word) : Byte := (v >>> 8).setWidth 8

/-- `hi ++ lo` of R9: `hi * 256 + lo`. -/
def joinBytes (hi lo : Byte) : Word := hi ++ lo

/-- `sext_16` of R10: `v − 256` when bit 7 is 1, else `v`, modulo 2^16. -/
def sext16 (v : Byte) : Word := v.signExtend 16

/-- `zext_16` of R10. -/
def zext16 (v : Byte) : Word := v.setWidth 16

/-- Bit `i` of a byte (R9). -/
def bit (v : Byte) (i : Nat) : Bool := v.getLsbD i

/-- The byte `1 << i`. -/
def bitMask (i : Nat) : Byte := (1 : Byte) <<< i

/-- The 2-bit code of a PPU mode in STAT (R62, R78). -/
def PpuMode.code (m : PpuMode) : Nat :=
  match m with
  | .hBlank => 0
  | .vBlank => 1
  | .oamScan => 2
  | .drawing => 3

/-- The bit of `pressed` that stands for a button (R441). -/
def Button.index (btn : Button) : Nat :=
  match btn with
  | .right => 0
  | .left => 1
  | .up => 2
  | .down => 3
  | .a => 4
  | .b => 5
  | .select => 6
  | .start => 7

/-- `f` applied `n` times: the `repeat n times` of R431, R451 and R500. -/
def iterate {α : Type} (f : α → α) (n : Nat) (x : α) : α :=
  match n with
  | 0 => x
  | k + 1 => iterate f k (f x)

end Sys2Proof.Machine
end

