-- ==== Sys2Proof/Machine/Memory.lean ====
section
/-! DEFINITION. One storage array as a list of cells in canonical form, and the seven arrays together
(10_state.md rules R80 and R81). -/

namespace Sys2Proof.Machine

/-- What a byte reads as that no cell lists. DESIGN CHOICE (log 1): the spec leaves the initial contents to
`P_INIT_MEM`; `load` lists them. -/
def unlistedByte : Byte := 0x00

/-- The byte at an address of an array. -/
def Mem.get (m : Mem) (addr : Nat) : Byte :=
  match m with
  | [] => unlistedByte
  | (k, w) :: rest => if k = addr then w else Mem.get rest addr

/-- The array without a cell for `addr`. -/
def Mem.erase (m : Mem) (addr : Nat) : Mem :=
  match m with
  | [] => []
  | (k, w) :: rest => if k = addr then Mem.erase rest addr else (k, w) :: Mem.erase rest addr

/-- The array with the cell `(addr, v)` put before the first cell of a higher address. -/
def Mem.insert (m : Mem) (addr : Nat) (v : Byte) : Mem :=
  match m with
  | [] => [(addr, v)]
  | (k, w) :: rest => if addr < k then (addr, v) :: (k, w) :: rest else (k, w) :: Mem.insert rest addr v

/-- The array with `v` stored at `addr`: a byte equal to `unlistedByte` needs no cell. -/
def Mem.set (m : Mem) (addr : Nat) (v : Byte) : Mem :=
  if v = unlistedByte then Mem.erase m addr else Mem.insert (Mem.erase m addr) addr v

/-- Every cell's address is `lo` or higher, the addresses rise strictly, and no cell holds `unlistedByte`. -/
def Mem.wfFrom (lo : Nat) (m : Mem) : Bool :=
  match m with
  | [] => true
  | (k, w) :: rest => decide (lo ≤ k) && decide (w ≠ unlistedByte) && Mem.wfFrom (k + 1) rest

/-- The canonical form of one array. -/
def Mem.wf (m : Mem) : Bool := Mem.wfFrom 0 m

/-- The bytes of a list at addresses `at`, `at + 1`, ..., over an array that holds nothing else there. -/
def Mem.ofBytes (start : Nat) (bytes : List Byte) : Mem :=
  match bytes with
  | [] => []
  | v :: rest => if v = unlistedByte then Mem.ofBytes (start + 1) rest else (start, v) :: Mem.ofBytes (start + 1) rest

/-- The array that the cells of a list, taken in order, leave in a store of `size` bytes. -/
def Mem.ofCells (size : Nat) (cells : List Host.Cell) : Mem :=
  cells.foldl (fun m c => if c.1 < size then Mem.set m c.1 c.2 else m) []

/-- The array behind a store name. -/
def Memory.array (mem : Memory) (st : Store) : Mem :=
  match st with
  | .m => mem.m
  | .vram1 => mem.vram1
  | .wramx => mem.wramx
  | .eram => mem.eram
  | .rom => mem.rom
  | .bgpal => mem.bgpal
  | .objpal => mem.objpal

/-- The byte at an offset of a store. -/
def Memory.get (mem : Memory) (st : Store) (o : Nat) : Byte := (mem.array st).get o

/-- The memory with `v` stored at an offset of a store. -/
def Memory.set (mem : Memory) (st : Store) (o : Nat) (v : Byte) : Memory :=
  match st with
  | .m => { mem with m := mem.m.set o v }
  | .vram1 => { mem with vram1 := mem.vram1.set o v }
  | .wramx => { mem with wramx := mem.wramx.set o v }
  | .eram => { mem with eram := mem.eram.set o v }
  | .rom => { mem with rom := mem.rom.set o v }
  | .bgpal => { mem with bgpal := mem.bgpal.set o v }
  | .objpal => { mem with objpal := mem.objpal.set o v }

/-- Every array is in canonical form. -/
def Memory.wf (mem : Memory) : Bool :=
  mem.m.wf && mem.vram1.wf && mem.wramx.wf && mem.eram.wf && mem.rom.wf && mem.bgpal.wf && mem.objpal.wf

end Sys2Proof.Machine
end

