-- ==== Sys2Proof/Machine/Apu.lean ====
section
/-! DEFINITION. The APU (62_devices_apu.md): its register bytes as it reads them, one cycle of a channel, the trigger, the
mix and the sample stream, and the side effects of a register write. The APU changes only its own state and its output,
so it is written over `Apu` and not over the whole machine. -/

namespace Sys2Proof.Machine

/-- The register bytes of one channel, read live (R79): NRx1 to NRx4 and, for channel 1, NR10. -/
structure ChannelRegs where
  nrx0 : Byte
  nrx1 : Byte
  nrx2 : Byte
  nrx4 : Byte
  deriving DecidableEq, Repr

/-- The register bytes the APU reads during an advance; nothing writes them meanwhile (R403). -/
structure ApuRegs where
  ch1 : ChannelRegs
  ch2 : ChannelRegs
  nr50 : Byte
  nr51 : Byte
  deriving DecidableEq, Repr

/-- The flat register bytes of `M` (R48 to R54, R508). Channel 2 has no NRx0; the field is never used for it. -/
def ApuRegs.ofMemory (mem : Memory) : ApuRegs :=
  { ch1 := { nrx0 := mem.get .m 0xFF10, nrx1 := mem.get .m 0xFF11, nrx2 := mem.get .m 0xFF12,
             nrx4 := mem.get .m 0xFF14 }
    ch2 := { nrx0 := 0, nrx1 := mem.get .m 0xFF16, nrx2 := mem.get .m 0xFF17, nrx4 := mem.get .m 0xFF19 }
    nr50 := mem.get .m 0xFF24
    nr51 := mem.get .m 0xFF25 }

/-- NRx1[5:0], the length L (R49). -/
def ChannelRegs.length (r : ChannelRegs) : Nat := r.nrx1.toNat % 64

/-- NRx1[7:6], the duty index (R49). -/
def ChannelRegs.duty (r : ChannelRegs) : Nat := r.nrx1.toNat / 64

/-- NRx2[2:0], the envelope period (R50). -/
def ChannelRegs.envPeriod (r : ChannelRegs) : Nat := r.nrx2.toNat % 8

/-- NRx2[3], 1 = increase (R50). -/
def ChannelRegs.envUp (r : ChannelRegs) : Bool := bit r.nrx2 3

/-- NRx4[6], the length enable (R52). -/
def ChannelRegs.lengthOn (r : ChannelRegs) : Bool := bit r.nrx4 6

/-- NR10[6:4], the sweep period (R48). -/
def ChannelRegs.sweepPeriod (r : ChannelRegs) : Nat := r.nrx0.toNat / 16 % 8

/-- NR10[3], 1 = subtract (R48). -/
def ChannelRegs.sweepDown (r : ChannelRegs) : Bool := bit r.nrx0 3

/-- NR10[2:0], the sweep shift (R48). -/
def ChannelRegs.sweepShift (r : ChannelRegs) : Nat := r.nrx0.toNat % 8

/-- One envelope step: ±1, staying in 0 to 15 (R503). -/
def stepVolume (up : Bool) (vol : BitVec 4) : BitVec 4 :=
  if up then (if vol.toNat < 15 then vol + 1 else vol)
  else (if vol.toNat > 0 then vol - 1 else vol)

/-- The length part of a cycle: counts, and disables the channel when the time has passed (R501, R502). -/
def lengthTick (r : ChannelRegs) (ch : Channel) : Channel :=
  let t := ch.ltimer + 1
  { ch with ltimer := t, en := !(r.lengthOn && decide (t ≥ (64 - r.length) * 16384)) }

/-- The envelope part of a cycle (R501, R503). -/
def envelopeTick (r : ChannelRegs) (ch : Channel) : Channel :=
  if r.envPeriod = 0 then ch
  else if ch.etimer + 1 ≥ r.envPeriod * 65536 then
    { ch with etimer := 0, vol := stepVolume r.envUp ch.vol }
  else { ch with etimer := ch.etimer + 1 }

/-- The duty part of a cycle (R501, R505). -/
def dutyTick (ch : Channel) : Channel :=
  if ch.ftimer + 1 ≥ (2048 - ch.freq.toNat) * 4 then
    { ch with ftimer := 0, phase := ch.phase + 1 }
  else { ch with ftimer := ch.ftimer + 1 }

/-- The candidate frequency of a sweep step (R504). -/
def sweepCandidate (r : ChannelRegs) (shadow : BitVec 11) : Nat :=
  let d := shadow.toNat >>> r.sweepShift
  if r.sweepDown then shadow.toNat - d else shadow.toNat + d

/-- The sweep part of a cycle of channel 1 (R501, R504). -/
def sweepTick (r : ChannelRegs) (ch : Channel) (sw : Sweep) : Channel × Sweep :=
  if r.sweepPeriod = 0 then (ch, sw)
  else if sw.stimer + 1 ≥ r.sweepPeriod * 32768 then
    let cand := sweepCandidate r sw.shadow
    if cand > 2047 then ({ ch with en := false }, { sw with stimer := 0 })
    else if r.sweepShift = 0 then (ch, { sw with stimer := 0 })
    else ({ ch with freq := BitVec.ofNat 11 cand }, { shadow := BitVec.ofNat 11 cand, stimer := 0 })
  else (ch, { sw with stimer := sw.stimer + 1 })

/-- `ChannelTick(1)`: length, envelope, sweep, duty; a part that disables the channel ends the cycle (R501). -/
def channel1Tick (r : ChannelRegs) (ch : Channel) (sw : Sweep) : Channel × Sweep :=
  if !ch.en then (ch, sw)
  else
    let c1 := lengthTick r ch
    if !c1.en then (c1, sw)
    else
      let p := sweepTick r (envelopeTick r c1) sw
      if !p.1.en then p else (dutyTick p.1, p.2)

/-- `ChannelTick(2)`: as channel 1 without the sweep (R501, R508). -/
def channel2Tick (r : ChannelRegs) (ch : Channel) : Channel :=
  if !ch.en then ch
  else
    let c1 := lengthTick r ch
    if !c1.en then c1 else dutyTick (envelopeTick r c1)

/-- The four duty patterns, position 0 first (R505). -/
def dutyPattern (duty : Nat) : List Bool :=
  match duty with
  | 0 => [false, false, false, false, false, false, false, true]
  | 1 => [true, false, false, false, false, false, false, true]
  | 2 => [true, false, false, false, false, true, true, true]
  | _ => [false, true, true, true, true, true, true, false]

/-- `amp(k)` of R506: 0 for a disabled channel, else ±volume by the duty bit. -/
def amplitude (r : ChannelRegs) (ch : Channel) : Int :=
  if !ch.en then 0
  else if (dutyPattern r.duty).getD ch.phase.toNat false then (ch.vol.toNat : Int)
  else -(ch.vol.toNat : Int)

/-- The amplitude if the selection bit is 1, else 0. -/
def gated (sel : Bool) (amp : Int) : Int := if sel then amp else 0

/-- `Mix()` (R506). -/
def mix (r : ApuRegs) (apu : Apu) : Sample :=
  let a1 := amplitude r.ch1 apu.ch1
  let a2 := amplitude r.ch2 apu.ch2
  { left := (gated (bit r.nr51 4) a1 + gated (bit r.nr51 5) a2) * ((r.nr50.toNat / 16 % 8 + 1 : Nat) : Int)
    right := (gated (bit r.nr51 0) a1 + gated (bit r.nr51 1) a2) * ((r.nr50.toNat % 8 + 1 : Nat) : Int) }

/-- The APU and the batches it has handed to the host so far in this advance, oldest first. -/
structure ApuRun where
  apu : Apu
  done : List (List Sample)
  deriving DecidableEq, Repr

/-- `EmitSample`: the sample joins the pending batch; a batch of `P_BATCH` samples goes to the host (R507). -/
def emitSample (batchSize : Nat) (smp : Sample) (run : ApuRun) : ApuRun :=
  let b := run.apu.batch ++ [smp]
  if b.length ≥ batchSize then { apu := { run.apu with batch := [] }, done := run.done ++ [b] }
  else { run with apu := { run.apu with batch := b } }

/-- Both channel ticks of one cycle (R500). -/
def channelsTick (r : ApuRegs) (apu : Apu) : Apu :=
  let p := channel1Tick r.ch1 apu.ch1 apu.sweep
  { apu with ch1 := p.1, sweep := p.2, ch2 := channel2Tick r.ch2 apu.ch2 }

/-- One cycle of `ApuAdvance` (R500): the channels, then the accumulator, then a sample when it is due (R507). -/
def apuTick (r : ApuRegs) (sampleRate batchSize : Nat) (run : ApuRun) : ApuRun :=
  let apu := channelsTick r run.apu
  let acc := apu.acc + sampleRate
  if acc ≥ Config.clockHz then
    let apu' := { apu with acc := acc - Config.clockHz }
    emitSample batchSize (mix r apu') { run with apu := apu' }
  else { run with apu := { apu with acc := acc } }

/-- `Trigger` of either channel, without the sweep part (R511): `phase` and `ftimer` are not reset. -/
def triggerChannel (nrx2 : Byte) (ch : Channel) : Channel :=
  { ch with en := true, vol := BitVec.ofNat 4 (nrx2.toNat / 16), etimer := 0, ltimer := 0 }

/-- NRx3 write: frequency bits 7 to 0 (R510). -/
def setFreqLow (v : Byte) (ch : Channel) : Channel :=
  { ch with freq := BitVec.ofNat 11 (ch.freq.toNat / 256 * 256 + v.toNat) }

/-- NRx4 write: frequency bits 10 to 8 (R510). -/
def setFreqHigh (v : Byte) (ch : Channel) : Channel :=
  { ch with freq := BitVec.ofNat 11 (v.toNat % 8 * 256 + ch.freq.toNat % 256) }

/-- `ApuWrite(addr, v)` (R510), on the APU; `mem` is the memory with the byte already stored. Every address but four
has no side effect. -/
def apuWrite (addr : Nat) (v : Byte) (mem : Memory) (apu : Apu) : Apu :=
  if addr = 0xFF13 then { apu with ch1 := setFreqLow v apu.ch1 }
  else if addr = 0xFF14 then
    let ch := setFreqHigh v apu.ch1
    if bit v 7 then
      { apu with ch1 := triggerChannel (mem.get .m 0xFF12) ch, sweep := { shadow := ch.freq, stimer := 0 } }
    else { apu with ch1 := ch }
  else if addr = 0xFF18 then { apu with ch2 := setFreqLow v apu.ch2 }
  else if addr = 0xFF19 then
    let ch := setFreqHigh v apu.ch2
    if bit v 7 then { apu with ch2 := triggerChannel (mem.get .m 0xFF17) ch } else { apu with ch2 := ch }
  else apu

end Sys2Proof.Machine
end

