-- ==== Sys2Proof/Machine/Flags.lean ====
section
/-! DEFINITION. The flag byte and every flag computation: each arithmetic, logical and rotate operation as a function
from operands and old flags to the result and the new flags. Operands are taken as numbers, the exact result
is formed, and it is narrowed at the end. -/

namespace Sys2Proof.Machine

/-- The four flags of F, bits 7, 6, 5 and 4 (R33). -/
structure Flags where
  z : Bool
  n : Bool
  h : Bool
  c : Bool
  deriving DecidableEq, Repr

/-- The flags a byte holds in bits 7 to 4 (R33). -/
def Flags.ofByte (f : Byte) : Flags := { z := bit f 7, n := bit f 6, h := bit f 5, c := bit f 4 }

/-- The byte `v` if the flag is 1, else 0. -/
def flagBit (flag : Bool) (v : Byte) : Byte := if flag then v else 0

/-- The flag byte; its low nibble is 0 (R33). -/
def Flags.toByte (fl : Flags) : Byte :=
  flagBit fl.z 0x80 ||| flagBit fl.n 0x40 ||| flagBit fl.h 0x20 ||| flagBit fl.c 0x10

/-- `cond(cc)` of R176. -/
def Flags.cond (fl : Flags) (cc : Cond) : Bool :=
  match cc with
  | .nz => !fl.z
  | .z => fl.z
  | .nc => !fl.c
  | .c => fl.c

/-- `add8` of R250. -/
def add8 (a b : Byte) (ci : Bool) : Byte × Flags :=
  let res := a.toNat + b.toNat + ci.toNat
  (BitVec.ofNat 8 res,
    { z := decide (res % 256 = 0), n := false,
      h := decide (a.toNat % 16 + b.toNat % 16 + ci.toNat > 0x0F), c := decide (res > 0xFF) })

/-- `sub8` of R250; the exact result is an integer and may be negative. -/
def sub8 (a b : Byte) (ci : Bool) : Byte × Flags :=
  let res : Int := (a.toNat : Int) - b.toNat - ci.toNat
  (BitVec.ofInt 8 res,
    { z := decide (res % 256 = 0), n := true,
      h := decide (a.toNat % 16 < b.toNat % 16 + ci.toNat), c := decide (res < 0) })

/-- The result of AND, XOR and OR with their flags: Z from the result, N and C cleared, H as given (R263, R266, R269). -/
def logic8 (res : Byte) (h : Bool) : Byte × Flags :=
  (res, { z := decide (res = 0), n := false, h := h, c := false })

/-- The eight ALU operations (R177): what A receives, and the flags. CP discards its result (R272). -/
def aluResult (op : AluOp) (a b : Byte) (carry : Bool) : Byte × Flags :=
  match op with
  | .add => add8 a b false
  | .adc => add8 a b carry
  | .sub => sub8 a b false
  | .sbc => sub8 a b carry
  | .and => logic8 (a &&& b) true
  | .xor => logic8 (a ^^^ b) false
  | .or => logic8 (a ||| b) false
  | .cp => (a, (sub8 a b false).2)

/-- INC of a byte: C is unchanged (R275). -/
def inc8 (v : Byte) (old : Flags) : Byte × Flags :=
  let w := v + 1
  (w, { z := decide (w = 0), n := false, h := decide (v.toNat % 16 = 0x0F), c := old.c })

/-- DEC of a byte: C is unchanged (R277). -/
def dec8 (v : Byte) (old : Flags) : Byte × Flags :=
  let w := v - 1
  (w, { z := decide (w = 0), n := true, h := decide (v.toNat % 16 = 0x00), c := old.c })

/-- The amount and the carry of DAA after an addition; both tests use the A from before (R279). -/
def daaAdd (a : Byte) (old : Flags) : Nat × Bool :=
  let big := old.c || decide (a.toNat > 0x99)
  let low := old.h || decide (a.toNat % 16 > 0x09)
  ((if big then 0x60 else 0) + (if low then 0x06 else 0), big)

/-- DAA (R279): after a subtraction C is kept, and N is never changed. -/
def daa8 (a : Byte) (old : Flags) : Byte × Flags :=
  if old.n then
    let res := a - (if old.c then 0x60 else 0) - (if old.h then 0x06 else 0)
    (res, { z := decide (res = 0), n := true, h := false, c := old.c })
  else
    let res := BitVec.ofNat 8 (a.toNat + (daaAdd a old).1)
    (res, { z := decide (res = 0), n := false, h := false, c := (daaAdd a old).2 })

/-- ADD HL,rr: H from bit 11, C from bit 15, Z unchanged (R290). -/
def addHl16 (hl rr : Word) (old : Flags) : Word × Flags :=
  let res := hl.toNat + rr.toNat
  (BitVec.ofNat 16 res,
    { z := old.z, n := false, h := decide (hl.toNat % 0x1000 + rr.toNat % 0x1000 > 0x0FFF),
      c := decide (res > 0xFFFF) })

/-- SP plus a signed displacement: H and C are the carries of the UNSIGNED addition of the low byte, Z and N are 0
(R233, R293, 90_conflicts.md C3). -/
def addSpE8 (sp : Word) (e8 : Byte) : Word × Flags :=
  (sp + sext16 e8,
    { z := false, n := false, h := decide (sp.toNat % 16 + e8.toNat % 16 > 0x0F),
      c := decide (sp.toNat % 256 + e8.toNat > 0xFF) })

/-- The result and the bit shifted out of a rotate or shift; `ci` is the carry before it (R315 to R329). SWAP shifts
nothing out. -/
def rotate8 (op : RotOp) (v : Byte) (ci : Bool) : Byte × Bool :=
  match op with
  | .rlc => ((v <<< 1) ||| flagBit (bit v 7) 0x01, bit v 7)
  | .rrc => ((v >>> 1) ||| flagBit (bit v 0) 0x80, bit v 0)
  | .rl => ((v <<< 1) ||| flagBit ci 0x01, bit v 7)
  | .rr => ((v >>> 1) ||| flagBit ci 0x80, bit v 0)
  | .sla => (v <<< 1, bit v 7)
  | .sra => ((v >>> 1) ||| (v &&& 0x80), bit v 0)
  | .swap => ((v <<< 4) ||| (v >>> 4), false)
  | .srl => (v >>> 1, bit v 0)

/-- The CB rotates and shifts: Z from the result, N and H cleared, C the bit shifted out (R315 to R330). -/
def rotResult (op : RotOp) (v : Byte) (ci : Bool) : Byte × Flags :=
  let r := rotate8 op v ci
  (r.1, { z := decide (r.1 = 0), n := false, h := false, c := r.2 })

/-- RLCA, RRCA, RLA and RRA: as the CB form, but Z is always 0 (R310 to R313). -/
def rotAccResult (op : RotOp) (v : Byte) (ci : Bool) : Byte × Flags :=
  let r := rotate8 op v ci
  (r.1, { z := false, n := false, h := false, c := r.2 })

/-- BIT b: Z is the complement of the bit, N = 0, H = 1, C kept (R331). -/
def bitTestFlags (v : Byte) (b : Nat) (old : Flags) : Flags :=
  { z := !bit v b, n := false, h := true, c := old.c }

/-- `v AND NOT (1 << b)` (R333). -/
def resetBit (v : Byte) (b : Nat) : Byte := v &&& ~~~(bitMask b)

/-- `v OR (1 << b)` (R335). -/
def setBit (v : Byte) (b : Nat) : Byte := v ||| bitMask b

end Sys2Proof.Machine
end

