-- ==== Sys2Proof/Machine/Ops.lean ====
section
/-! DEFINITION. The named operations every meaning is built from: registers, the bus with its banking and its write side
effects (20_memory.md), the stack, interrupt requests, the interrupt entry and the return from it, and the fault
record (60_exceptions.md). -/

namespace Sys2Proof.Machine

/-- What a meaning and a step answer. -/
abbrev Result := Host.Outcome State Fault Refusal

/-! ## Single-register updates -/

/-- `PC <- v` (R35). -/
def State.setPc (s : State) (v : Word) : State := { s with cpu := { s.cpu with pc := v } }

/-- `SP <- v` (R34). -/
def State.setSp (s : State) (v : Word) : State := { s with cpu := { s.cpu with sp := v } }

/-- `A <- v`. -/
def State.setA (s : State) (v : Byte) : State := { s with cpu := { s.cpu with a := v } }

/-- `F <- v`. Every write to F stores `v AND 0xF0` (R33). -/
def State.setF (s : State) (v : Byte) : State := { s with cpu := { s.cpu with f := v &&& 0xF0 } }

/-- `IME <- v` (R37). -/
def State.setIme (s : State) (v : Ime) : State := { s with cpu := { s.cpu with ime := v } }

/-- Writes the halted flag (R36). -/
def State.setHalted (s : State) (v : Bool) : State := { s with cpu := { s.cpu with halted := v } }

/-- `cycles <- n`: the cost the CPU step returns (R10, R171). -/
def State.charge (s : State) (n : Nat) : State := { s with cycles := n }

/-- The flags F holds (R33). -/
def State.flags (s : State) : Flags := Flags.ofByte s.cpu.f

/-- Writes all four flags (R33). -/
def State.setFlags (s : State) (fl : Flags) : State := s.setF fl.toByte

/-- HL as a 16-bit value (R32). -/
def State.hl (s : State) : Word := joinBytes s.cpu.h s.cpu.l

/-! ## Storage -/

/-- The machine with `v` stored at an offset of a store, no side effect. -/
def State.store (s : State) (st : Store) (o : Nat) (v : Byte) : State := { s with mem := s.mem.set st o v }

/-- The stored byte `M[addr]`, not routed through the bus: how a register byte is read by its block (R146). -/
def State.io (s : State) (addr : Nat) : Byte := s.mem.get .m addr

/-- `M[addr] <- v` with no side effect (R146). -/
def State.setIo (s : State) (addr : Nat) (v : Byte) : State := s.store .m addr v

/-! ## Banking (R121 to R124, R75) -/

/-- The ROM image offset that an address below 0x8000 reaches (R121). -/
def State.romOffset (s : State) (a : Nat) : Nat :=
  match s.cart.mapper with
  | .romOnly => a
  | .mbc1 =>
    if a < 0x4000 then a
    else (if s.mbc.mode then s.mbc.bankLo.toNat else s.mbc.bankHi.toNat * 32 + s.mbc.bankLo.toNat) * 0x4000
      + (a - 0x4000)

/-- `RomRead`: offsets at or past the image end read 0xFF (R121). -/
def State.romRead (s : State) (a : Nat) : Byte :=
  if s.romOffset a < s.cart.romLen then s.mem.get .rom (s.romOffset a) else 0xFF

/-- `eram_on()` (R122). -/
def State.eramOn (s : State) : Bool :=
  decide (s.cart.mapper = .mbc1) && s.mbc.ramEn && decide (s.cart.eramBytes > 0)

/-- `eoff(addr)` (R122). -/
def State.eramOffset (s : State) (a : Nat) : Nat :=
  (if s.mbc.mode then s.mbc.bankHi.toNat else 0) * 0x2000 + (a - 0xA000)

/-- External RAM is enabled and holds the offset `a` reaches (R122). -/
def State.eramReaches (s : State) (a : Nat) : Bool :=
  s.eramOn && decide (s.eramOffset a < s.cart.eramBytes)

/-- VRAM bank 1 is selected: Color mode and VBK bit 0 (R123). -/
def State.vramBank1 (s : State) : Bool := s.cart.colorMode && bit (s.io 0xFF4F) 0

/-- `wbank()` (R124). -/
def State.wbank (s : State) : Nat :=
  if s.cart.colorMode then max 1 ((s.io 0xFF70).toNat % 8) else 1

/-- The index in `WRAMX` that an address in 0xD000 to 0xDFFF reaches (R124). -/
def State.wramIndex (s : State) (a : Nat) : Nat := s.wbank * 0x1000 + (a - 0xD000)

/-- The VRAM cell that an address in 0x8000 to 0x9FFF reaches (R123). -/
def State.vramCell (s : State) (a : Nat) : Store × Nat :=
  if s.vramBank1 then (.vram1, a - 0x8000) else (.m, a)

/-! ## Bus reads (R120) -/

/-- The read value of P1 (R41): a selected group pulls a line low for each of its pressed buttons. -/
def State.joypadRead (s : State) : Byte :=
  let sel := s.io 0xFF00
  let directions := ~~~(s.pressed &&& 0x0F) &&& 0x0F
  let buttons := ~~~(s.pressed >>> 4) &&& 0x0F
  let lines := (if bit sel 4 then 0x0F else directions) &&& (if bit sel 5 then 0x0F else buttons)
  0xC0 ||| (sel &&& 0x30) ||| lines

/-- `modefield()` (R120): the mode while LCDC bit 7 is 1, else 0. -/
def State.modeField (s : State) : Byte :=
  if bit (s.io 0xFF40) 7 then BitVec.ofNat 8 s.ppu.mode.code else 0

/-- The read value of STAT (R62). -/
def State.statRead (s : State) : Byte :=
  (s.io 0xFF41 &&& 0xF8) ||| flagBit s.ppu.coinc 0x04 ||| s.modeField

/-- Bits 5 to 0 of the palette index register at `addr` (R71, R72). -/
def State.paletteIndex (s : State) (addr : Nat) : Nat := (s.io addr).toNat % 64

/-- `MemRead(addr, 1)` (R120). -/
def State.memRead (s : State) (addr : Word) : Byte :=
  let a := addr.toNat
  if a < 0x8000 then s.romRead a
  else if a < 0xA000 then s.mem.get (s.vramCell a).1 (s.vramCell a).2
  else if a < 0xC000 then (if s.eramReaches a then s.mem.get .eram (s.eramOffset a) else 0xFF)
  else if a < 0xD000 then s.io a
  else if a < 0xE000 then s.mem.get .wramx (s.wramIndex a)
  else if a = 0xFF00 then s.joypadRead
  else if a = 0xFF04 then hiByte s.divider
  else if a = 0xFF41 then s.statRead
  else if a = 0xFF44 then BitVec.ofNat 8 s.ppu.ly
  else if a = 0xFF69 then s.mem.get .bgpal (s.paletteIndex 0xFF68)
  else if a = 0xFF6B then s.mem.get .objpal (s.paletteIndex 0xFF6A)
  else s.io a

/-- `Read16(addr)` (R103): low byte first, the second address modulo 2^16. -/
def State.read16 (s : State) (addr : Word) : Word := joinBytes (s.memRead (addr + 1)) (s.memRead addr)

/-! ## Bus writes (R130) -/

/-- The MBC1 register that a control write of `v` at `a` sets (R131). -/
def mbc1Write (a : Nat) (v : Byte) (mbc : Mbc1) : Mbc1 :=
  if a < 0x2000 then { mbc with ramEn := decide (v &&& 0x0F = 0x0A) }
  else if a < 0x4000 then
    { mbc with bankLo := if v &&& 0x1F = 0 then 1 else v.setWidth 5 }
  else if a < 0x6000 then { mbc with bankHi := v.setWidth 2 }
  else { mbc with mode := bit v 0 }

/-- `MapperWrite(addr, v)` (R131); a ROM-only cartridge ignores it (R132). -/
def State.mapperWrite (s : State) (a : Nat) (v : Byte) : State :=
  match s.cart.mapper with
  | .romOnly => s
  | .mbc1 => { s with mbc := mbc1Write a v s.mbc }

/-- One byte of an OAM DMA (R135). -/
def State.dmaByte (page : Byte) (s : State) (i : Nat) : State :=
  s.setIo (0xFE00 + i) (s.memRead (BitVec.ofNat 16 (page.toNat * 0x100 + i)))

/-- `OamDma(page)`: 160 bytes in increasing order, each routed through `MemRead` (R135). -/
def State.oamDma (s : State) (page : Byte) : State := (List.range 160).foldl (State.dmaByte page) s

/-- A write to a palette data port: the byte at the index, then the auto-increment of the index register at `idx`
(R71, R72). -/
def State.paletteWrite (s : State) (pal : Store) (idx : Nat) (v : Byte) : State :=
  let s1 := s.store pal (s.paletteIndex idx) v
  if bit (s.io idx) 7 then s1.setIo idx ((s.io idx &&& 0xC0) ||| ((s.io idx + 1) &&& 0x3F)) else s1

/-- A write to a register of the APU window: stored, then forwarded (R136). -/
def State.apuRegWrite (s : State) (a : Nat) (v : Byte) : State :=
  let s1 := s.setIo a v
  { s1 with apu := apuWrite a v s1.mem s1.apu }

/-- `MemWrite(addr, 1, v)` (R130). -/
def State.memWrite (s : State) (addr : Word) (v : Byte) : State :=
  let a := addr.toNat
  if a < 0x8000 then s.mapperWrite a v
  else if a < 0xA000 then s.store (s.vramCell a).1 (s.vramCell a).2 v
  else if a < 0xC000 then (if s.eramReaches a then s.store .eram (s.eramOffset a) v else s)
  else if a < 0xD000 then s.setIo a v
  else if a < 0xE000 then s.store .wramx (s.wramIndex a) v
  else if a = 0xFF00 then s.setIo a (v &&& 0x30)
  else if a = 0xFF04 then { s with divider := 0 }
  else if 0xFF10 ≤ a ∧ a ≤ 0xFF26 then s.apuRegWrite a v
  else if a = 0xFF41 then s.setIo a (v &&& 0xF8)
  else if a = 0xFF44 then s
  else if a = 0xFF46 then (s.setIo a v).oamDma v
  else if a = 0xFF69 then s.paletteWrite .bgpal 0xFF68 v
  else if a = 0xFF6B then s.paletteWrite .objpal 0xFF6A v
  else s.setIo a v

/-- `Write16(addr, v)` (R104): low byte first, the second address modulo 2^16. -/
def State.write16 (s : State) (addr v : Word) : State :=
  (s.memWrite addr (loByte v)).memWrite (addr + 1) (hiByte v)

/-! ## The stack (R236) -/

/-- One byte of a push: SP is decremented, then the byte is written. -/
def State.pushByte (s : State) (v : Byte) : State :=
  let s1 := s.setSp (s.cpu.sp - 1)
  s1.memWrite s1.cpu.sp v

/-- `Push16(v)`: the high byte first, at the higher address. -/
def State.push16 (s : State) (v : Word) : State := (s.pushByte (hiByte v)).pushByte (loByte v)

/-- The word `Pop16()` returns. -/
def State.poppedWord (s : State) : Word := s.read16 s.cpu.sp

/-- The state `Pop16()` leaves. -/
def State.dropWord (s : State) : State := s.setSp (s.cpu.sp + 2)

/-! ## Interrupts (R410 to R414) -/

/-- `RequestInterrupt(k)` (R410). -/
def State.requestInterrupt (s : State) (k : Nat) : State := s.setIo 0xFF0F (s.io 0xFF0F ||| bitMask k)

/-- `IF AND IE AND 0x1F` (R412). -/
def State.pendingSources (s : State) : Byte := s.io 0xFF0F &&& s.io 0xFFFF &&& 0x1F

/-- The lowest k with bit k set (R412, R414). -/
def lowestSource (p : Byte) : Option Nat := (List.range 5).find? (fun k => bit p k)

/-- The vector of source `k` (R47, R413). -/
def vectorOf (k : Nat) : Word := BitVec.ofNat 16 (0x0040 + 8 * k)

/-- `Dispatch(k)`, the interrupt entry (R413): IME and the request bit are cleared, PC is pushed, and PC goes to the
vector. The vector is the one chosen before the push (R418). -/
def State.takeInterrupt (s : State) (k : Nat) : State :=
  let s1 := (s.setIme .disabled).setIo 0xFF0F (s.io 0xFF0F &&& ~~~(bitMask k))
  (s1.push16 s.cpu.pc).setPc (vectorOf k)

/-- The wake part of Service: a pending enabled source clears halted, whatever IME is (R412). -/
def State.wake (s : State) : State :=
  if s.cpu.halted && decide (s.pendingSources ≠ 0) then s.setHalted false else s

/-- The dispatch part of Service (R412). -/
def State.dispatch (s : State) : State :=
  if s.cpu.ime = .enabled ∧ s.cpu.halted = false then
    match lowestSource s.pendingSources with
    | some k => s.takeInterrupt k
    | none => s
  else s

/-- `Service()` (R412): wake, then dispatch, in one call. -/
def State.service (s : State) : State := s.wake.dispatch

/-- The return from an interrupt (R349, R416): PC is popped and IME becomes 1 at once; nothing else is restored. -/
def State.returnFromInterrupt (s : State) : State := ((s.dropWord).setPc s.poppedWord).setIme .enabled

/-- `raise UnknownOpcode(op, at)` (R420): the record is set, and no device cycle is charged (R568). -/
def State.raiseUnknownOpcode (s : State) (op : Byte) (addr : Word) : State :=
  { s with fault := some { op := op, addr := addr }, cycles := 0 }

end Sys2Proof.Machine
end

