-- ==== Sys2Proof/Machine/Operands.lean ====
section
/-! DEFINITION. Every operand form (30_encoding.md rules R173 to R178): registers, pairs, the condition, and the
addresses that memory operands name. -/

namespace Sys2Proof.Machine

/-- Read of an 8-bit register operand (R173). -/
def State.reg (s : State) (r : Reg8) : Byte :=
  match r with
  | .b => s.cpu.b
  | .c => s.cpu.c
  | .d => s.cpu.d
  | .e => s.cpu.e
  | .h => s.cpu.h
  | .l => s.cpu.l
  | .a => s.cpu.a

/-- Write of an 8-bit register operand (R173). -/
def State.setReg (s : State) (r : Reg8) (v : Byte) : State :=
  match r with
  | .b => { s with cpu := { s.cpu with b := v } }
  | .c => { s with cpu := { s.cpu with c := v } }
  | .d => { s with cpu := { s.cpu with d := v } }
  | .e => { s with cpu := { s.cpu with e := v } }
  | .h => { s with cpu := { s.cpu with h := v } }
  | .l => { s with cpu := { s.cpu with l := v } }
  | .a => { s with cpu := { s.cpu with a := v } }

/-- BC as a 16-bit value (R32). -/
def State.bc (s : State) : Word := joinBytes s.cpu.b s.cpu.c

/-- DE as a 16-bit value (R32). -/
def State.de (s : State) : Word := joinBytes s.cpu.d s.cpu.e

/-- AF as a 16-bit value (R32). -/
def State.af (s : State) : Word := joinBytes s.cpu.a s.cpu.f

/-- `HL <- v` writes both halves (R32). -/
def State.setHl (s : State) (v : Word) : State :=
  { s with cpu := { s.cpu with h := hiByte v, l := loByte v } }

/-- `BC <- v` (R32). -/
def State.setBc (s : State) (v : Word) : State :=
  { s with cpu := { s.cpu with b := hiByte v, c := loByte v } }

/-- `DE <- v` (R32). -/
def State.setDe (s : State) (v : Word) : State :=
  { s with cpu := { s.cpu with d := hiByte v, e := loByte v } }

/-- `AF <- v`: the low half goes through F's mask (R32, R33, R237). -/
def State.setAf (s : State) (v : Word) : State := (s.setA (hiByte v)).setF (loByte v)

/-- Read of a pair of table rp (R175). -/
def State.pair (s : State) (p : Pair) : Word :=
  match p with
  | .bc => s.bc
  | .de => s.de
  | .hl => s.hl
  | .sp => s.cpu.sp

/-- Write of a pair of table rp (R175). -/
def State.setPair (s : State) (p : Pair) (v : Word) : State :=
  match p with
  | .bc => s.setBc v
  | .de => s.setDe v
  | .hl => s.setHl v
  | .sp => s.setSp v

/-- Read of a pair of table rp2 (R175). -/
def State.stackPair (s : State) (p : StackPair) : Word :=
  match p with
  | .bc => s.bc
  | .de => s.de
  | .hl => s.hl
  | .af => s.af

/-- Write of a pair of table rp2 (R175). -/
def State.setStackPair (s : State) (p : StackPair) (v : Word) : State :=
  match p with
  | .bc => s.setBc v
  | .de => s.setDe v
  | .hl => s.setHl v
  | .af => s.setAf v

/-- The condition `cc` holds in F (R176). -/
def State.cond (s : State) (cc : Cond) : Bool := s.flags.cond cc

/-- The address `0xFF00 + v` of LDH and `LD (C)` (R178). -/
def highPage (v : Byte) : Word := 0xFF00 + zext16 v

/-- The address `PC + e8` that JR names; PC is already that of the next instruction (R178, R343). -/
def State.relTarget (s : State) (e8 : Byte) : Word := s.cpu.pc + sext16 e8

end Sys2Proof.Machine
end

