-- ==== Sys2Proof/Machine/Alu16.lean ====
section
/-! DEFINITION. The 16-bit arithmetic (43_alu16.md). INC rr and DEC rr change no flag. -/

namespace Sys2Proof.Machine

/-- `ADD HL,rr` (R290). -/
def addHl (p : Pair) (s : State) : Result :=
  let r := addHl16 s.hl (s.pair p) s.flags
  .next (((s.setHl r.1).setFlags r.2).charge 8)

/-- `INC rr` and `DEC rr`: the pair moves by `delta` modulo 2^16 (R291, R292). -/
def movePair (p : Pair) (delta : Word) (s : State) : Result :=
  .next ((s.setPair p (s.pair p + delta)).charge 8)

/-- R290: `ADD HL,BC`. -/
def execAddHlBc (s : State) : Result := addHl .bc s

/-- R290: `ADD HL,DE`. -/
def execAddHlDe (s : State) : Result := addHl .de s

/-- R290: `ADD HL,HL`. -/
def execAddHlHl (s : State) : Result := addHl .hl s

/-- R290: `ADD HL,SP`. -/
def execAddHlSp (s : State) : Result := addHl .sp s

/-- R291: `INC BC`. -/
def execIncBc (s : State) : Result :=
  movePair .bc 1 s

/-- R291: `INC DE`. -/
def execIncDe (s : State) : Result :=
  movePair .de 1 s

/-- R291: `INC HL`. -/
def execIncHl (s : State) : Result :=
  movePair .hl 1 s

/-- R291: `INC SP`. -/
def execIncSp (s : State) : Result :=
  movePair .sp 1 s

/-- R292: `DEC BC`. -/
def execDecBc (s : State) : Result :=
  movePair .bc (-1) s

/-- R292: `DEC DE`. -/
def execDecDe (s : State) : Result :=
  movePair .de (-1) s

/-- R292: `DEC HL`. -/
def execDecHl (s : State) : Result :=
  movePair .hl (-1) s

/-- R292: `DEC SP`. -/
def execDecSp (s : State) : Result :=
  movePair .sp (-1) s

/-- R293: `ADD SP,e8`. -/
def execAddSpE8 (e8 : Byte) (s : State) : Result :=
  .next (((s.setSp (addSpE8 s.cpu.sp e8).1).setFlags (addSpE8 s.cpu.sp e8).2).charge 16)

end Sys2Proof.Machine
end

