-- ==== Sys2Proof/Machine/Alu8.lean ====
section
/-! DEFINITION. The 8-bit arithmetic and logic (42_alu8.md): each of the eight operations in its three operand forms, INC, DEC, and the accumulator and flag operations. -/

namespace Sys2Proof.Machine

/-- A and F after an ALU operation with the operand `v` (R250, R177). -/
def State.alu (s : State) (op : AluOp) (v : Byte) : State :=
  let r := aluResult op s.cpu.a v s.flags.c
  (s.setA r.1).setFlags r.2

/-- The register form (R250). -/
def aluWithReg (op : AluOp) (r : Reg8) (s : State) : Result := .next ((s.alu op (s.reg r)).charge 4)

/-- The `(HL)` form (R250). -/
def aluWithAtHl (op : AluOp) (s : State) : Result := .next ((s.alu op (s.memRead s.hl)).charge 8)

/-- The immediate form (R250). -/
def aluWithImm (op : AluOp) (n8 : Byte) (s : State) : Result := .next ((s.alu op n8).charge 8)

/-- A read-modify-write of a register with its flags at a cost (INC, DEC, and the CB register forms). -/
def modifyReg (f : Byte → Flags → Byte × Flags) (r : Reg8) (cost : Nat) (s : State) : Result :=
  let p := f (s.reg r) s.flags
  .next (((s.setReg r p.1).setFlags p.2).charge cost)

/-- A read-modify-write of the byte at HL with its flags at a cost: one read, then one write (R276, R314). -/
def modifyAtHl (f : Byte → Flags → Byte × Flags) (cost : Nat) (s : State) : Result :=
  let p := f (s.memRead s.hl) s.flags
  .next (((s.memWrite s.hl p.1).setFlags p.2).charge cost)

/-- An operation on A and the flags at 4 cycles (DAA, CPL, SCF, CCF and the accumulator rotates). -/
def modifyA (f : Byte → Flags → Byte × Flags) (s : State) : Result :=
  let p := f s.cpu.a s.flags
  .next (((s.setA p.1).setFlags p.2).charge 4)

/-! ## ADD -/

/-- R251: `ADD A,B`. -/
def execAddAB (s : State) : Result := aluWithReg .add .b s

/-- R251: `ADD A,C`. -/
def execAddAC (s : State) : Result := aluWithReg .add .c s

/-- R251: `ADD A,D`. -/
def execAddAD (s : State) : Result := aluWithReg .add .d s

/-- R251: `ADD A,E`. -/
def execAddAE (s : State) : Result := aluWithReg .add .e s

/-- R251: `ADD A,H`. -/
def execAddAH (s : State) : Result := aluWithReg .add .h s

/-- R251: `ADD A,L`. -/
def execAddAL (s : State) : Result := aluWithReg .add .l s

/-- R251: `ADD A,A`. -/
def execAddAA (s : State) : Result := aluWithReg .add .a s

/-- R252: `ADD A,(HL)`. -/
def execAddAAtHl (s : State) : Result := aluWithAtHl .add s

/-- R253: `ADD A,n8`. -/
def execAddAN8 (n8 : Byte) (s : State) : Result := aluWithImm .add n8 s

/-! ## ADC -/

/-- R254: `ADC A,B`. -/
def execAdcAB (s : State) : Result := aluWithReg .adc .b s

/-- R254: `ADC A,C`. -/
def execAdcAC (s : State) : Result := aluWithReg .adc .c s

/-- R254: `ADC A,D`. -/
def execAdcAD (s : State) : Result := aluWithReg .adc .d s

/-- R254: `ADC A,E`. -/
def execAdcAE (s : State) : Result := aluWithReg .adc .e s

/-- R254: `ADC A,H`. -/
def execAdcAH (s : State) : Result := aluWithReg .adc .h s

/-- R254: `ADC A,L`. -/
def execAdcAL (s : State) : Result := aluWithReg .adc .l s

/-- R254: `ADC A,A`. -/
def execAdcAA (s : State) : Result := aluWithReg .adc .a s

/-- R255: `ADC A,(HL)`. -/
def execAdcAAtHl (s : State) : Result := aluWithAtHl .adc s

/-- R256: `ADC A,n8`. -/
def execAdcAN8 (n8 : Byte) (s : State) : Result := aluWithImm .adc n8 s

/-! ## SUB -/

/-- R257: `SUB B`. -/
def execSubB (s : State) : Result := aluWithReg .sub .b s

/-- R257: `SUB C`. -/
def execSubC (s : State) : Result := aluWithReg .sub .c s

/-- R257: `SUB D`. -/
def execSubD (s : State) : Result := aluWithReg .sub .d s

/-- R257: `SUB E`. -/
def execSubE (s : State) : Result := aluWithReg .sub .e s

/-- R257: `SUB H`. -/
def execSubH (s : State) : Result := aluWithReg .sub .h s

/-- R257: `SUB L`. -/
def execSubL (s : State) : Result := aluWithReg .sub .l s

/-- R257: `SUB A`. -/
def execSubA (s : State) : Result := aluWithReg .sub .a s

/-- R258: `SUB (HL)`. -/
def execSubAtHl (s : State) : Result := aluWithAtHl .sub s

/-- R259: `SUB n8`. -/
def execSubN8 (n8 : Byte) (s : State) : Result := aluWithImm .sub n8 s

/-! ## SBC -/

/-- R260: `SBC A,B`. -/
def execSbcAB (s : State) : Result := aluWithReg .sbc .b s

/-- R260: `SBC A,C`. -/
def execSbcAC (s : State) : Result := aluWithReg .sbc .c s

/-- R260: `SBC A,D`. -/
def execSbcAD (s : State) : Result := aluWithReg .sbc .d s

/-- R260: `SBC A,E`. -/
def execSbcAE (s : State) : Result := aluWithReg .sbc .e s

/-- R260: `SBC A,H`. -/
def execSbcAH (s : State) : Result := aluWithReg .sbc .h s

/-- R260: `SBC A,L`. -/
def execSbcAL (s : State) : Result := aluWithReg .sbc .l s

/-- R260: `SBC A,A`. -/
def execSbcAA (s : State) : Result := aluWithReg .sbc .a s

/-- R261: `SBC A,(HL)`. -/
def execSbcAAtHl (s : State) : Result := aluWithAtHl .sbc s

/-- R262: `SBC A,n8`. -/
def execSbcAN8 (n8 : Byte) (s : State) : Result := aluWithImm .sbc n8 s

/-! ## AND -/

/-- R263: `AND B`. -/
def execAndB (s : State) : Result := aluWithReg .and .b s

/-- R263: `AND C`. -/
def execAndC (s : State) : Result := aluWithReg .and .c s

/-- R263: `AND D`. -/
def execAndD (s : State) : Result := aluWithReg .and .d s

/-- R263: `AND E`. -/
def execAndE (s : State) : Result := aluWithReg .and .e s

/-- R263: `AND H`. -/
def execAndH (s : State) : Result := aluWithReg .and .h s

/-- R263: `AND L`. -/
def execAndL (s : State) : Result := aluWithReg .and .l s

/-- R263: `AND A`. -/
def execAndA (s : State) : Result := aluWithReg .and .a s

/-- R264: `AND (HL)`. -/
def execAndAtHl (s : State) : Result := aluWithAtHl .and s

/-- R265: `AND n8`. -/
def execAndN8 (n8 : Byte) (s : State) : Result := aluWithImm .and n8 s

/-! ## XOR -/

/-- R266: `XOR B`. -/
def execXorB (s : State) : Result := aluWithReg .xor .b s

/-- R266: `XOR C`. -/
def execXorC (s : State) : Result := aluWithReg .xor .c s

/-- R266: `XOR D`. -/
def execXorD (s : State) : Result := aluWithReg .xor .d s

/-- R266: `XOR E`. -/
def execXorE (s : State) : Result := aluWithReg .xor .e s

/-- R266: `XOR H`. -/
def execXorH (s : State) : Result := aluWithReg .xor .h s

/-- R266: `XOR L`. -/
def execXorL (s : State) : Result := aluWithReg .xor .l s

/-- R266: `XOR A`. -/
def execXorA (s : State) : Result := aluWithReg .xor .a s

/-- R267: `XOR (HL)`. -/
def execXorAtHl (s : State) : Result := aluWithAtHl .xor s

/-- R268: `XOR n8`. -/
def execXorN8 (n8 : Byte) (s : State) : Result := aluWithImm .xor n8 s

/-! ## OR -/

/-- R269: `OR B`. -/
def execOrB (s : State) : Result := aluWithReg .or .b s

/-- R269: `OR C`. -/
def execOrC (s : State) : Result := aluWithReg .or .c s

/-- R269: `OR D`. -/
def execOrD (s : State) : Result := aluWithReg .or .d s

/-- R269: `OR E`. -/
def execOrE (s : State) : Result := aluWithReg .or .e s

/-- R269: `OR H`. -/
def execOrH (s : State) : Result := aluWithReg .or .h s

/-- R269: `OR L`. -/
def execOrL (s : State) : Result := aluWithReg .or .l s

/-- R269: `OR A`. -/
def execOrA (s : State) : Result := aluWithReg .or .a s

/-- R270: `OR (HL)`. -/
def execOrAtHl (s : State) : Result := aluWithAtHl .or s

/-- R271: `OR n8`. -/
def execOrN8 (n8 : Byte) (s : State) : Result := aluWithImm .or n8 s

/-! ## CP -/

/-- R272: `CP B`. -/
def execCpB (s : State) : Result := aluWithReg .cp .b s

/-- R272: `CP C`. -/
def execCpC (s : State) : Result := aluWithReg .cp .c s

/-- R272: `CP D`. -/
def execCpD (s : State) : Result := aluWithReg .cp .d s

/-- R272: `CP E`. -/
def execCpE (s : State) : Result := aluWithReg .cp .e s

/-- R272: `CP H`. -/
def execCpH (s : State) : Result := aluWithReg .cp .h s

/-- R272: `CP L`. -/
def execCpL (s : State) : Result := aluWithReg .cp .l s

/-- R272: `CP A`. -/
def execCpA (s : State) : Result := aluWithReg .cp .a s

/-- R273: `CP (HL)`. -/
def execCpAtHl (s : State) : Result := aluWithAtHl .cp s

/-- R274: `CP n8`. -/
def execCpN8 (n8 : Byte) (s : State) : Result := aluWithImm .cp n8 s

/-! ## INC -/

/-- R275: `INC B`. -/
def execIncB (s : State) : Result :=
  modifyReg inc8 .b 4 s

/-- R275: `INC C`. -/
def execIncC (s : State) : Result :=
  modifyReg inc8 .c 4 s

/-- R275: `INC D`. -/
def execIncD (s : State) : Result :=
  modifyReg inc8 .d 4 s

/-- R275: `INC E`. -/
def execIncE (s : State) : Result :=
  modifyReg inc8 .e 4 s

/-- R275: `INC H`. -/
def execIncH (s : State) : Result :=
  modifyReg inc8 .h 4 s

/-- R275: `INC L`. -/
def execIncL (s : State) : Result :=
  modifyReg inc8 .l 4 s

/-- R275: `INC A`. -/
def execIncA (s : State) : Result :=
  modifyReg inc8 .a 4 s

/-- R276: `INC (HL)`. -/
def execIncAtHl (s : State) : Result :=
  modifyAtHl inc8 12 s

/-! ## DEC -/

/-- R277: `DEC B`. -/
def execDecB (s : State) : Result :=
  modifyReg dec8 .b 4 s

/-- R277: `DEC C`. -/
def execDecC (s : State) : Result :=
  modifyReg dec8 .c 4 s

/-- R277: `DEC D`. -/
def execDecD (s : State) : Result :=
  modifyReg dec8 .d 4 s

/-- R277: `DEC E`. -/
def execDecE (s : State) : Result :=
  modifyReg dec8 .e 4 s

/-- R277: `DEC H`. -/
def execDecH (s : State) : Result :=
  modifyReg dec8 .h 4 s

/-- R277: `DEC L`. -/
def execDecL (s : State) : Result :=
  modifyReg dec8 .l 4 s

/-- R277: `DEC A`. -/
def execDecA (s : State) : Result :=
  modifyReg dec8 .a 4 s

/-- R278: `DEC (HL)`. -/
def execDecAtHl (s : State) : Result :=
  modifyAtHl dec8 12 s

/-! ## Accumulator adjust and flag operations -/

/-- R279: `DAA`. -/
def execDaa (s : State) : Result :=
  modifyA daa8 s

/-- R280: `CPL`. -/
def execCpl (s : State) : Result :=
  modifyA (fun a old => (a ^^^ 0xFF, { old with n := true, h := true })) s

/-- R281: `SCF`. -/
def execScf (s : State) : Result :=
  modifyA (fun a old => (a, { old with n := false, h := false, c := true })) s

/-- R282: `CCF`. -/
def execCcf (s : State) : Result :=
  modifyA (fun a old => (a, { old with n := false, h := false, c := !old.c })) s

end Sys2Proof.Machine
end

