-- ==== Sys2Proof/Machine/RotateShift.lean ====
section
/-! DEFINITION. The rotates and shifts (44_rotate_shift_bit.md rules R310 to R330). -/

namespace Sys2Proof.Machine

/-- An accumulator rotate: as its CB counterpart, but Z is always 0 (R310 to R313). -/
def rotateA (op : RotOp) (s : State) : Result := modifyA (fun a old => rotAccResult op a old.c) s

/-- The register form of a CB rotate or shift (R315 to R329). -/
def rotateReg (op : RotOp) (r : Reg8) (s : State) : Result :=
  modifyReg (fun v old => rotResult op v old.c) r 8 s

/-- The `(HL)` form of a CB rotate or shift (R316 to R330): the write happens even when the byte is unchanged (R314). -/
def rotateAtHl (op : RotOp) (s : State) : Result := modifyAtHl (fun v old => rotResult op v old.c) 16 s

/-- R310: `RLCA`. -/
def execRlca (s : State) : Result := rotateA .rlc s

/-- R311: `RRCA`. -/
def execRrca (s : State) : Result := rotateA .rrc s

/-- R312: `RLA`. -/
def execRla (s : State) : Result := rotateA .rl s

/-- R313: `RRA`. -/
def execRra (s : State) : Result := rotateA .rr s

/-! ## RLC -/

/-- R315: `RLC B`. -/
def execRlcB (s : State) : Result := rotateReg .rlc .b s

/-- R315: `RLC C`. -/
def execRlcC (s : State) : Result := rotateReg .rlc .c s

/-- R315: `RLC D`. -/
def execRlcD (s : State) : Result := rotateReg .rlc .d s

/-- R315: `RLC E`. -/
def execRlcE (s : State) : Result := rotateReg .rlc .e s

/-- R315: `RLC H`. -/
def execRlcH (s : State) : Result := rotateReg .rlc .h s

/-- R315: `RLC L`. -/
def execRlcL (s : State) : Result := rotateReg .rlc .l s

/-- R315: `RLC A`. -/
def execRlcA (s : State) : Result := rotateReg .rlc .a s

/-- R316: `RLC (HL)`. -/
def execRlcAtHl (s : State) : Result := rotateAtHl .rlc s

/-! ## RRC -/

/-- R317: `RRC B`. -/
def execRrcB (s : State) : Result := rotateReg .rrc .b s

/-- R317: `RRC C`. -/
def execRrcC (s : State) : Result := rotateReg .rrc .c s

/-- R317: `RRC D`. -/
def execRrcD (s : State) : Result := rotateReg .rrc .d s

/-- R317: `RRC E`. -/
def execRrcE (s : State) : Result := rotateReg .rrc .e s

/-- R317: `RRC H`. -/
def execRrcH (s : State) : Result := rotateReg .rrc .h s

/-- R317: `RRC L`. -/
def execRrcL (s : State) : Result := rotateReg .rrc .l s

/-- R317: `RRC A`. -/
def execRrcA (s : State) : Result := rotateReg .rrc .a s

/-- R318: `RRC (HL)`. -/
def execRrcAtHl (s : State) : Result := rotateAtHl .rrc s

/-! ## RL -/

/-- R319: `RL B`. -/
def execRlB (s : State) : Result := rotateReg .rl .b s

/-- R319: `RL C`. -/
def execRlC (s : State) : Result := rotateReg .rl .c s

/-- R319: `RL D`. -/
def execRlD (s : State) : Result := rotateReg .rl .d s

/-- R319: `RL E`. -/
def execRlE (s : State) : Result := rotateReg .rl .e s

/-- R319: `RL H`. -/
def execRlH (s : State) : Result := rotateReg .rl .h s

/-- R319: `RL L`. -/
def execRlL (s : State) : Result := rotateReg .rl .l s

/-- R319: `RL A`. -/
def execRlA (s : State) : Result := rotateReg .rl .a s

/-- R320: `RL (HL)`. -/
def execRlAtHl (s : State) : Result := rotateAtHl .rl s

/-! ## RR -/

/-- R321: `RR B`. -/
def execRrB (s : State) : Result := rotateReg .rr .b s

/-- R321: `RR C`. -/
def execRrC (s : State) : Result := rotateReg .rr .c s

/-- R321: `RR D`. -/
def execRrD (s : State) : Result := rotateReg .rr .d s

/-- R321: `RR E`. -/
def execRrE (s : State) : Result := rotateReg .rr .e s

/-- R321: `RR H`. -/
def execRrH (s : State) : Result := rotateReg .rr .h s

/-- R321: `RR L`. -/
def execRrL (s : State) : Result := rotateReg .rr .l s

/-- R321: `RR A`. -/
def execRrA (s : State) : Result := rotateReg .rr .a s

/-- R322: `RR (HL)`. -/
def execRrAtHl (s : State) : Result := rotateAtHl .rr s

/-! ## SLA -/

/-- R323: `SLA B`. -/
def execSlaB (s : State) : Result := rotateReg .sla .b s

/-- R323: `SLA C`. -/
def execSlaC (s : State) : Result := rotateReg .sla .c s

/-- R323: `SLA D`. -/
def execSlaD (s : State) : Result := rotateReg .sla .d s

/-- R323: `SLA E`. -/
def execSlaE (s : State) : Result := rotateReg .sla .e s

/-- R323: `SLA H`. -/
def execSlaH (s : State) : Result := rotateReg .sla .h s

/-- R323: `SLA L`. -/
def execSlaL (s : State) : Result := rotateReg .sla .l s

/-- R323: `SLA A`. -/
def execSlaA (s : State) : Result := rotateReg .sla .a s

/-- R324: `SLA (HL)`. -/
def execSlaAtHl (s : State) : Result := rotateAtHl .sla s

/-! ## SRA -/

/-- R325: `SRA B`. -/
def execSraB (s : State) : Result := rotateReg .sra .b s

/-- R325: `SRA C`. -/
def execSraC (s : State) : Result := rotateReg .sra .c s

/-- R325: `SRA D`. -/
def execSraD (s : State) : Result := rotateReg .sra .d s

/-- R325: `SRA E`. -/
def execSraE (s : State) : Result := rotateReg .sra .e s

/-- R325: `SRA H`. -/
def execSraH (s : State) : Result := rotateReg .sra .h s

/-- R325: `SRA L`. -/
def execSraL (s : State) : Result := rotateReg .sra .l s

/-- R325: `SRA A`. -/
def execSraA (s : State) : Result := rotateReg .sra .a s

/-- R326: `SRA (HL)`. -/
def execSraAtHl (s : State) : Result := rotateAtHl .sra s

/-! ## SWAP -/

/-- R327: `SWAP B`. -/
def execSwapB (s : State) : Result := rotateReg .swap .b s

/-- R327: `SWAP C`. -/
def execSwapC (s : State) : Result := rotateReg .swap .c s

/-- R327: `SWAP D`. -/
def execSwapD (s : State) : Result := rotateReg .swap .d s

/-- R327: `SWAP E`. -/
def execSwapE (s : State) : Result := rotateReg .swap .e s

/-- R327: `SWAP H`. -/
def execSwapH (s : State) : Result := rotateReg .swap .h s

/-- R327: `SWAP L`. -/
def execSwapL (s : State) : Result := rotateReg .swap .l s

/-- R327: `SWAP A`. -/
def execSwapA (s : State) : Result := rotateReg .swap .a s

/-- R328: `SWAP (HL)`. -/
def execSwapAtHl (s : State) : Result := rotateAtHl .swap s

/-! ## SRL -/

/-- R329: `SRL B`. -/
def execSrlB (s : State) : Result := rotateReg .srl .b s

/-- R329: `SRL C`. -/
def execSrlC (s : State) : Result := rotateReg .srl .c s

/-- R329: `SRL D`. -/
def execSrlD (s : State) : Result := rotateReg .srl .d s

/-- R329: `SRL E`. -/
def execSrlE (s : State) : Result := rotateReg .srl .e s

/-- R329: `SRL H`. -/
def execSrlH (s : State) : Result := rotateReg .srl .h s

/-- R329: `SRL L`. -/
def execSrlL (s : State) : Result := rotateReg .srl .l s

/-- R329: `SRL A`. -/
def execSrlA (s : State) : Result := rotateReg .srl .a s

/-- R330: `SRL (HL)`. -/
def execSrlAtHl (s : State) : Result := rotateAtHl .srl s

end Sys2Proof.Machine
end

