-- ==== Sys2Proof/Machine/BitOps.lean ====
section
/-! DEFINITION. The single-bit operations (44_rotate_shift_bit.md rules R331 to R336) and the CB prefix (R314). -/

namespace Sys2Proof.Machine

/-- `BIT b,r` (R331). -/
def testReg (b : Fin 8) (r : Reg8) (s : State) : Result :=
  .next ((s.setFlags (bitTestFlags (s.reg r) b.val s.flags)).charge 8)

/-- `BIT b,(HL)` (R332): the only `(HL)` form of the CB map that does not write back. -/
def testAtHl (b : Fin 8) (s : State) : Result :=
  .next ((s.setFlags (bitTestFlags (s.memRead s.hl) b.val s.flags)).charge 12)

/-- `RES b,r` (R333). -/
def resetReg (b : Fin 8) (r : Reg8) (s : State) : Result :=
  .next ((s.setReg r (resetBit (s.reg r) b.val)).charge 8)

/-- `RES b,(HL)` (R334). -/
def resetAtHl (b : Fin 8) (s : State) : Result :=
  .next ((s.memWrite s.hl (resetBit (s.memRead s.hl) b.val)).charge 16)

/-- `SET b,r` (R335). -/
def setBitReg (b : Fin 8) (r : Reg8) (s : State) : Result :=
  .next ((s.setReg r (setBit (s.reg r) b.val)).charge 8)

/-- `SET b,(HL)` (R336). -/
def setBitAtHl (b : Fin 8) (s : State) : Result :=
  .next ((s.memWrite s.hl (setBit (s.memRead s.hl) b.val)).charge 16)

/-! ## BIT -/

/-- R331: `BIT 0,B`. -/
def execBit0B (s : State) : Result := testReg 0 .b s

/-- R331: `BIT 0,C`. -/
def execBit0C (s : State) : Result := testReg 0 .c s

/-- R331: `BIT 0,D`. -/
def execBit0D (s : State) : Result := testReg 0 .d s

/-- R331: `BIT 0,E`. -/
def execBit0E (s : State) : Result := testReg 0 .e s

/-- R331: `BIT 0,H`. -/
def execBit0H (s : State) : Result := testReg 0 .h s

/-- R331: `BIT 0,L`. -/
def execBit0L (s : State) : Result := testReg 0 .l s

/-- R331: `BIT 0,A`. -/
def execBit0A (s : State) : Result := testReg 0 .a s

/-- R332: `BIT 0,(HL)`. -/
def execBit0AtHl (s : State) : Result := testAtHl 0 s

/-- R331: `BIT 1,B`. -/
def execBit1B (s : State) : Result := testReg 1 .b s

/-- R331: `BIT 1,C`. -/
def execBit1C (s : State) : Result := testReg 1 .c s

/-- R331: `BIT 1,D`. -/
def execBit1D (s : State) : Result := testReg 1 .d s

/-- R331: `BIT 1,E`. -/
def execBit1E (s : State) : Result := testReg 1 .e s

/-- R331: `BIT 1,H`. -/
def execBit1H (s : State) : Result := testReg 1 .h s

/-- R331: `BIT 1,L`. -/
def execBit1L (s : State) : Result := testReg 1 .l s

/-- R331: `BIT 1,A`. -/
def execBit1A (s : State) : Result := testReg 1 .a s

/-- R332: `BIT 1,(HL)`. -/
def execBit1AtHl (s : State) : Result := testAtHl 1 s

/-- R331: `BIT 2,B`. -/
def execBit2B (s : State) : Result := testReg 2 .b s

/-- R331: `BIT 2,C`. -/
def execBit2C (s : State) : Result := testReg 2 .c s

/-- R331: `BIT 2,D`. -/
def execBit2D (s : State) : Result := testReg 2 .d s

/-- R331: `BIT 2,E`. -/
def execBit2E (s : State) : Result := testReg 2 .e s

/-- R331: `BIT 2,H`. -/
def execBit2H (s : State) : Result := testReg 2 .h s

/-- R331: `BIT 2,L`. -/
def execBit2L (s : State) : Result := testReg 2 .l s

/-- R331: `BIT 2,A`. -/
def execBit2A (s : State) : Result := testReg 2 .a s

/-- R332: `BIT 2,(HL)`. -/
def execBit2AtHl (s : State) : Result := testAtHl 2 s

/-- R331: `BIT 3,B`. -/
def execBit3B (s : State) : Result := testReg 3 .b s

/-- R331: `BIT 3,C`. -/
def execBit3C (s : State) : Result := testReg 3 .c s

/-- R331: `BIT 3,D`. -/
def execBit3D (s : State) : Result := testReg 3 .d s

/-- R331: `BIT 3,E`. -/
def execBit3E (s : State) : Result := testReg 3 .e s

/-- R331: `BIT 3,H`. -/
def execBit3H (s : State) : Result := testReg 3 .h s

/-- R331: `BIT 3,L`. -/
def execBit3L (s : State) : Result := testReg 3 .l s

/-- R331: `BIT 3,A`. -/
def execBit3A (s : State) : Result := testReg 3 .a s

/-- R332: `BIT 3,(HL)`. -/
def execBit3AtHl (s : State) : Result := testAtHl 3 s

/-- R331: `BIT 4,B`. -/
def execBit4B (s : State) : Result := testReg 4 .b s

/-- R331: `BIT 4,C`. -/
def execBit4C (s : State) : Result := testReg 4 .c s

/-- R331: `BIT 4,D`. -/
def execBit4D (s : State) : Result := testReg 4 .d s

/-- R331: `BIT 4,E`. -/
def execBit4E (s : State) : Result := testReg 4 .e s

/-- R331: `BIT 4,H`. -/
def execBit4H (s : State) : Result := testReg 4 .h s

/-- R331: `BIT 4,L`. -/
def execBit4L (s : State) : Result := testReg 4 .l s

/-- R331: `BIT 4,A`. -/
def execBit4A (s : State) : Result := testReg 4 .a s

/-- R332: `BIT 4,(HL)`. -/
def execBit4AtHl (s : State) : Result := testAtHl 4 s

/-- R331: `BIT 5,B`. -/
def execBit5B (s : State) : Result := testReg 5 .b s

/-- R331: `BIT 5,C`. -/
def execBit5C (s : State) : Result := testReg 5 .c s

/-- R331: `BIT 5,D`. -/
def execBit5D (s : State) : Result := testReg 5 .d s

/-- R331: `BIT 5,E`. -/
def execBit5E (s : State) : Result := testReg 5 .e s

/-- R331: `BIT 5,H`. -/
def execBit5H (s : State) : Result := testReg 5 .h s

/-- R331: `BIT 5,L`. -/
def execBit5L (s : State) : Result := testReg 5 .l s

/-- R331: `BIT 5,A`. -/
def execBit5A (s : State) : Result := testReg 5 .a s

/-- R332: `BIT 5,(HL)`. -/
def execBit5AtHl (s : State) : Result := testAtHl 5 s

/-- R331: `BIT 6,B`. -/
def execBit6B (s : State) : Result := testReg 6 .b s

/-- R331: `BIT 6,C`. -/
def execBit6C (s : State) : Result := testReg 6 .c s

/-- R331: `BIT 6,D`. -/
def execBit6D (s : State) : Result := testReg 6 .d s

/-- R331: `BIT 6,E`. -/
def execBit6E (s : State) : Result := testReg 6 .e s

/-- R331: `BIT 6,H`. -/
def execBit6H (s : State) : Result := testReg 6 .h s

/-- R331: `BIT 6,L`. -/
def execBit6L (s : State) : Result := testReg 6 .l s

/-- R331: `BIT 6,A`. -/
def execBit6A (s : State) : Result := testReg 6 .a s

/-- R332: `BIT 6,(HL)`. -/
def execBit6AtHl (s : State) : Result := testAtHl 6 s

/-- R331: `BIT 7,B`. -/
def execBit7B (s : State) : Result := testReg 7 .b s

/-- R331: `BIT 7,C`. -/
def execBit7C (s : State) : Result := testReg 7 .c s

/-- R331: `BIT 7,D`. -/
def execBit7D (s : State) : Result := testReg 7 .d s

/-- R331: `BIT 7,E`. -/
def execBit7E (s : State) : Result := testReg 7 .e s

/-- R331: `BIT 7,H`. -/
def execBit7H (s : State) : Result := testReg 7 .h s

/-- R331: `BIT 7,L`. -/
def execBit7L (s : State) : Result := testReg 7 .l s

/-- R331: `BIT 7,A`. -/
def execBit7A (s : State) : Result := testReg 7 .a s

/-- R332: `BIT 7,(HL)`. -/
def execBit7AtHl (s : State) : Result := testAtHl 7 s

/-! ## RES -/

/-- R333: `RES 0,B`. -/
def execRes0B (s : State) : Result := resetReg 0 .b s

/-- R333: `RES 0,C`. -/
def execRes0C (s : State) : Result := resetReg 0 .c s

/-- R333: `RES 0,D`. -/
def execRes0D (s : State) : Result := resetReg 0 .d s

/-- R333: `RES 0,E`. -/
def execRes0E (s : State) : Result := resetReg 0 .e s

/-- R333: `RES 0,H`. -/
def execRes0H (s : State) : Result := resetReg 0 .h s

/-- R333: `RES 0,L`. -/
def execRes0L (s : State) : Result := resetReg 0 .l s

/-- R333: `RES 0,A`. -/
def execRes0A (s : State) : Result := resetReg 0 .a s

/-- R334: `RES 0,(HL)`. -/
def execRes0AtHl (s : State) : Result := resetAtHl 0 s

/-- R333: `RES 1,B`. -/
def execRes1B (s : State) : Result := resetReg 1 .b s

/-- R333: `RES 1,C`. -/
def execRes1C (s : State) : Result := resetReg 1 .c s

/-- R333: `RES 1,D`. -/
def execRes1D (s : State) : Result := resetReg 1 .d s

/-- R333: `RES 1,E`. -/
def execRes1E (s : State) : Result := resetReg 1 .e s

/-- R333: `RES 1,H`. -/
def execRes1H (s : State) : Result := resetReg 1 .h s

/-- R333: `RES 1,L`. -/
def execRes1L (s : State) : Result := resetReg 1 .l s

/-- R333: `RES 1,A`. -/
def execRes1A (s : State) : Result := resetReg 1 .a s

/-- R334: `RES 1,(HL)`. -/
def execRes1AtHl (s : State) : Result := resetAtHl 1 s

/-- R333: `RES 2,B`. -/
def execRes2B (s : State) : Result := resetReg 2 .b s

/-- R333: `RES 2,C`. -/
def execRes2C (s : State) : Result := resetReg 2 .c s

/-- R333: `RES 2,D`. -/
def execRes2D (s : State) : Result := resetReg 2 .d s

/-- R333: `RES 2,E`. -/
def execRes2E (s : State) : Result := resetReg 2 .e s

/-- R333: `RES 2,H`. -/
def execRes2H (s : State) : Result := resetReg 2 .h s

/-- R333: `RES 2,L`. -/
def execRes2L (s : State) : Result := resetReg 2 .l s

/-- R333: `RES 2,A`. -/
def execRes2A (s : State) : Result := resetReg 2 .a s

/-- R334: `RES 2,(HL)`. -/
def execRes2AtHl (s : State) : Result := resetAtHl 2 s

/-- R333: `RES 3,B`. -/
def execRes3B (s : State) : Result := resetReg 3 .b s

/-- R333: `RES 3,C`. -/
def execRes3C (s : State) : Result := resetReg 3 .c s

/-- R333: `RES 3,D`. -/
def execRes3D (s : State) : Result := resetReg 3 .d s

/-- R333: `RES 3,E`. -/
def execRes3E (s : State) : Result := resetReg 3 .e s

/-- R333: `RES 3,H`. -/
def execRes3H (s : State) : Result := resetReg 3 .h s

/-- R333: `RES 3,L`. -/
def execRes3L (s : State) : Result := resetReg 3 .l s

/-- R333: `RES 3,A`. -/
def execRes3A (s : State) : Result := resetReg 3 .a s

/-- R334: `RES 3,(HL)`. -/
def execRes3AtHl (s : State) : Result := resetAtHl 3 s

/-- R333: `RES 4,B`. -/
def execRes4B (s : State) : Result := resetReg 4 .b s

/-- R333: `RES 4,C`. -/
def execRes4C (s : State) : Result := resetReg 4 .c s

/-- R333: `RES 4,D`. -/
def execRes4D (s : State) : Result := resetReg 4 .d s

/-- R333: `RES 4,E`. -/
def execRes4E (s : State) : Result := resetReg 4 .e s

/-- R333: `RES 4,H`. -/
def execRes4H (s : State) : Result := resetReg 4 .h s

/-- R333: `RES 4,L`. -/
def execRes4L (s : State) : Result := resetReg 4 .l s

/-- R333: `RES 4,A`. -/
def execRes4A (s : State) : Result := resetReg 4 .a s

/-- R334: `RES 4,(HL)`. -/
def execRes4AtHl (s : State) : Result := resetAtHl 4 s

/-- R333: `RES 5,B`. -/
def execRes5B (s : State) : Result := resetReg 5 .b s

/-- R333: `RES 5,C`. -/
def execRes5C (s : State) : Result := resetReg 5 .c s

/-- R333: `RES 5,D`. -/
def execRes5D (s : State) : Result := resetReg 5 .d s

/-- R333: `RES 5,E`. -/
def execRes5E (s : State) : Result := resetReg 5 .e s

/-- R333: `RES 5,H`. -/
def execRes5H (s : State) : Result := resetReg 5 .h s

/-- R333: `RES 5,L`. -/
def execRes5L (s : State) : Result := resetReg 5 .l s

/-- R333: `RES 5,A`. -/
def execRes5A (s : State) : Result := resetReg 5 .a s

/-- R334: `RES 5,(HL)`. -/
def execRes5AtHl (s : State) : Result := resetAtHl 5 s

/-- R333: `RES 6,B`. -/
def execRes6B (s : State) : Result := resetReg 6 .b s

/-- R333: `RES 6,C`. -/
def execRes6C (s : State) : Result := resetReg 6 .c s

/-- R333: `RES 6,D`. -/
def execRes6D (s : State) : Result := resetReg 6 .d s

/-- R333: `RES 6,E`. -/
def execRes6E (s : State) : Result := resetReg 6 .e s

/-- R333: `RES 6,H`. -/
def execRes6H (s : State) : Result := resetReg 6 .h s

/-- R333: `RES 6,L`. -/
def execRes6L (s : State) : Result := resetReg 6 .l s

/-- R333: `RES 6,A`. -/
def execRes6A (s : State) : Result := resetReg 6 .a s

/-- R334: `RES 6,(HL)`. -/
def execRes6AtHl (s : State) : Result := resetAtHl 6 s

/-- R333: `RES 7,B`. -/
def execRes7B (s : State) : Result := resetReg 7 .b s

/-- R333: `RES 7,C`. -/
def execRes7C (s : State) : Result := resetReg 7 .c s

/-- R333: `RES 7,D`. -/
def execRes7D (s : State) : Result := resetReg 7 .d s

/-- R333: `RES 7,E`. -/
def execRes7E (s : State) : Result := resetReg 7 .e s

/-- R333: `RES 7,H`. -/
def execRes7H (s : State) : Result := resetReg 7 .h s

/-- R333: `RES 7,L`. -/
def execRes7L (s : State) : Result := resetReg 7 .l s

/-- R333: `RES 7,A`. -/
def execRes7A (s : State) : Result := resetReg 7 .a s

/-- R334: `RES 7,(HL)`. -/
def execRes7AtHl (s : State) : Result := resetAtHl 7 s

/-! ## SET -/

/-- R335: `SET 0,B`. -/
def execSet0B (s : State) : Result := setBitReg 0 .b s

/-- R335: `SET 0,C`. -/
def execSet0C (s : State) : Result := setBitReg 0 .c s

/-- R335: `SET 0,D`. -/
def execSet0D (s : State) : Result := setBitReg 0 .d s

/-- R335: `SET 0,E`. -/
def execSet0E (s : State) : Result := setBitReg 0 .e s

/-- R335: `SET 0,H`. -/
def execSet0H (s : State) : Result := setBitReg 0 .h s

/-- R335: `SET 0,L`. -/
def execSet0L (s : State) : Result := setBitReg 0 .l s

/-- R335: `SET 0,A`. -/
def execSet0A (s : State) : Result := setBitReg 0 .a s

/-- R336: `SET 0,(HL)`. -/
def execSet0AtHl (s : State) : Result := setBitAtHl 0 s

/-- R335: `SET 1,B`. -/
def execSet1B (s : State) : Result := setBitReg 1 .b s

/-- R335: `SET 1,C`. -/
def execSet1C (s : State) : Result := setBitReg 1 .c s

/-- R335: `SET 1,D`. -/
def execSet1D (s : State) : Result := setBitReg 1 .d s

/-- R335: `SET 1,E`. -/
def execSet1E (s : State) : Result := setBitReg 1 .e s

/-- R335: `SET 1,H`. -/
def execSet1H (s : State) : Result := setBitReg 1 .h s

/-- R335: `SET 1,L`. -/
def execSet1L (s : State) : Result := setBitReg 1 .l s

/-- R335: `SET 1,A`. -/
def execSet1A (s : State) : Result := setBitReg 1 .a s

/-- R336: `SET 1,(HL)`. -/
def execSet1AtHl (s : State) : Result := setBitAtHl 1 s

/-- R335: `SET 2,B`. -/
def execSet2B (s : State) : Result := setBitReg 2 .b s

/-- R335: `SET 2,C`. -/
def execSet2C (s : State) : Result := setBitReg 2 .c s

/-- R335: `SET 2,D`. -/
def execSet2D (s : State) : Result := setBitReg 2 .d s

/-- R335: `SET 2,E`. -/
def execSet2E (s : State) : Result := setBitReg 2 .e s

/-- R335: `SET 2,H`. -/
def execSet2H (s : State) : Result := setBitReg 2 .h s

/-- R335: `SET 2,L`. -/
def execSet2L (s : State) : Result := setBitReg 2 .l s

/-- R335: `SET 2,A`. -/
def execSet2A (s : State) : Result := setBitReg 2 .a s

/-- R336: `SET 2,(HL)`. -/
def execSet2AtHl (s : State) : Result := setBitAtHl 2 s

/-- R335: `SET 3,B`. -/
def execSet3B (s : State) : Result := setBitReg 3 .b s

/-- R335: `SET 3,C`. -/
def execSet3C (s : State) : Result := setBitReg 3 .c s

/-- R335: `SET 3,D`. -/
def execSet3D (s : State) : Result := setBitReg 3 .d s

/-- R335: `SET 3,E`. -/
def execSet3E (s : State) : Result := setBitReg 3 .e s

/-- R335: `SET 3,H`. -/
def execSet3H (s : State) : Result := setBitReg 3 .h s

/-- R335: `SET 3,L`. -/
def execSet3L (s : State) : Result := setBitReg 3 .l s

/-- R335: `SET 3,A`. -/
def execSet3A (s : State) : Result := setBitReg 3 .a s

/-- R336: `SET 3,(HL)`. -/
def execSet3AtHl (s : State) : Result := setBitAtHl 3 s

/-- R335: `SET 4,B`. -/
def execSet4B (s : State) : Result := setBitReg 4 .b s

/-- R335: `SET 4,C`. -/
def execSet4C (s : State) : Result := setBitReg 4 .c s

/-- R335: `SET 4,D`. -/
def execSet4D (s : State) : Result := setBitReg 4 .d s

/-- R335: `SET 4,E`. -/
def execSet4E (s : State) : Result := setBitReg 4 .e s

/-- R335: `SET 4,H`. -/
def execSet4H (s : State) : Result := setBitReg 4 .h s

/-- R335: `SET 4,L`. -/
def execSet4L (s : State) : Result := setBitReg 4 .l s

/-- R335: `SET 4,A`. -/
def execSet4A (s : State) : Result := setBitReg 4 .a s

/-- R336: `SET 4,(HL)`. -/
def execSet4AtHl (s : State) : Result := setBitAtHl 4 s

/-- R335: `SET 5,B`. -/
def execSet5B (s : State) : Result := setBitReg 5 .b s

/-- R335: `SET 5,C`. -/
def execSet5C (s : State) : Result := setBitReg 5 .c s

/-- R335: `SET 5,D`. -/
def execSet5D (s : State) : Result := setBitReg 5 .d s

/-- R335: `SET 5,E`. -/
def execSet5E (s : State) : Result := setBitReg 5 .e s

/-- R335: `SET 5,H`. -/
def execSet5H (s : State) : Result := setBitReg 5 .h s

/-- R335: `SET 5,L`. -/
def execSet5L (s : State) : Result := setBitReg 5 .l s

/-- R335: `SET 5,A`. -/
def execSet5A (s : State) : Result := setBitReg 5 .a s

/-- R336: `SET 5,(HL)`. -/
def execSet5AtHl (s : State) : Result := setBitAtHl 5 s

/-- R335: `SET 6,B`. -/
def execSet6B (s : State) : Result := setBitReg 6 .b s

/-- R335: `SET 6,C`. -/
def execSet6C (s : State) : Result := setBitReg 6 .c s

/-- R335: `SET 6,D`. -/
def execSet6D (s : State) : Result := setBitReg 6 .d s

/-- R335: `SET 6,E`. -/
def execSet6E (s : State) : Result := setBitReg 6 .e s

/-- R335: `SET 6,H`. -/
def execSet6H (s : State) : Result := setBitReg 6 .h s

/-- R335: `SET 6,L`. -/
def execSet6L (s : State) : Result := setBitReg 6 .l s

/-- R335: `SET 6,A`. -/
def execSet6A (s : State) : Result := setBitReg 6 .a s

/-- R336: `SET 6,(HL)`. -/
def execSet6AtHl (s : State) : Result := setBitAtHl 6 s

/-- R335: `SET 7,B`. -/
def execSet7B (s : State) : Result := setBitReg 7 .b s

/-- R335: `SET 7,C`. -/
def execSet7C (s : State) : Result := setBitReg 7 .c s

/-- R335: `SET 7,D`. -/
def execSet7D (s : State) : Result := setBitReg 7 .d s

/-- R335: `SET 7,E`. -/
def execSet7E (s : State) : Result := setBitReg 7 .e s

/-- R335: `SET 7,H`. -/
def execSet7H (s : State) : Result := setBitReg 7 .h s

/-- R335: `SET 7,L`. -/
def execSet7L (s : State) : Result := setBitReg 7 .l s

/-- R335: `SET 7,A`. -/
def execSet7A (s : State) : Result := setBitReg 7 .a s

/-- R336: `SET 7,(HL)`. -/
def execSet7AtHl (s : State) : Result := setBitAtHl 7 s

/-! ## The CB prefix -/

/-- R314: `PREFIX CB` executes the row that the fields x, y, z of the second byte `op2` name (R179). PC is already past
both bytes. The decoder never answers this term: it reads the pair as one of the 256 CB instructions. -/
def execPrefixCb (op2 : Byte) (s : State) : Result :=
  let y := op2.toNat / 8 % 8
  match op2.toNat / 64, Operand8.ofField (op2.toNat % 8) with
  | 0, .reg r => rotateReg (RotOp.ofField y) r s
  | 0, .atHl => rotateAtHl (RotOp.ofField y) s
  | 1, .reg r => testReg (fieldIndex y) r s
  | 1, .atHl => testAtHl (fieldIndex y) s
  | 2, .reg r => resetReg (fieldIndex y) r s
  | 2, .atHl => resetAtHl (fieldIndex y) s
  | _, .reg r => setBitReg (fieldIndex y) r s
  | _, .atHl => setBitAtHl (fieldIndex y) s

end Sys2Proof.Machine
end

