-- ==== Sys2Proof/Machine/Control.lean ====
section
/-! DEFINITION. Jumps, calls and returns (45_control.md). PC is already the address of the next instruction. No instruction here changes a flag. -/

namespace Sys2Proof.Machine

/-- A call: PC is pushed and goes to the target (R345). -/
def State.call (s : State) (target : Word) : State := (s.push16 s.cpu.pc).setPc target

/-- A return: PC is popped (R347). -/
def State.ret (s : State) : State := (s.dropWord).setPc s.poppedWord

/-- `JP cc,a16` (R341). -/
def jumpIf (cc : Cond) (a16 : Word) (s : State) : Result :=
  if s.cond cc then .next ((s.setPc a16).charge 16) else .next (s.charge 12)

/-- `JR cc,e8` (R344). -/
def jumpRelIf (cc : Cond) (e8 : Byte) (s : State) : Result :=
  if s.cond cc then .next ((s.setPc (s.relTarget e8)).charge 12) else .next (s.charge 8)

/-- `CALL cc,a16` (R346): not taken, SP and memory are unchanged. -/
def callIf (cc : Cond) (a16 : Word) (s : State) : Result :=
  if s.cond cc then .next ((s.call a16).charge 24) else .next (s.charge 12)

/-- `RET cc` (R348). -/
def retIf (cc : Cond) (s : State) : Result :=
  if s.cond cc then .next ((s.ret).charge 20) else .next (s.charge 8)

/-- `RST t` (R350). -/
def restart (target : Word) (s : State) : Result := .next ((s.call target).charge 16)

/-- R340: `JP a16`. -/
def execJpA16 (a16 : Word) (s : State) : Result :=
  .next ((s.setPc a16).charge 16)

/-- R341: `JP NZ,a16`. -/
def execJpNzA16 (a16 : Word) (s : State) : Result := jumpIf .nz a16 s

/-- R341: `JP Z,a16`. -/
def execJpZA16 (a16 : Word) (s : State) : Result := jumpIf .z a16 s

/-- R341: `JP NC,a16`. -/
def execJpNcA16 (a16 : Word) (s : State) : Result := jumpIf .nc a16 s

/-- R341: `JP C,a16`. -/
def execJpCA16 (a16 : Word) (s : State) : Result := jumpIf .c a16 s

/-- R342: `JP HL`. -/
def execJpHl (s : State) : Result :=
  .next ((s.setPc s.hl).charge 4)

/-- R343: `JR e8`. -/
def execJrE8 (e8 : Byte) (s : State) : Result :=
  .next ((s.setPc (s.relTarget e8)).charge 12)

/-- R344: `JR NZ,e8`. -/
def execJrNzE8 (e8 : Byte) (s : State) : Result := jumpRelIf .nz e8 s

/-- R344: `JR Z,e8`. -/
def execJrZE8 (e8 : Byte) (s : State) : Result := jumpRelIf .z e8 s

/-- R344: `JR NC,e8`. -/
def execJrNcE8 (e8 : Byte) (s : State) : Result := jumpRelIf .nc e8 s

/-- R344: `JR C,e8`. -/
def execJrCE8 (e8 : Byte) (s : State) : Result := jumpRelIf .c e8 s

/-- R345: `CALL a16`. -/
def execCallA16 (a16 : Word) (s : State) : Result :=
  .next ((s.call a16).charge 24)

/-- R346: `CALL NZ,a16`. -/
def execCallNzA16 (a16 : Word) (s : State) : Result := callIf .nz a16 s

/-- R346: `CALL Z,a16`. -/
def execCallZA16 (a16 : Word) (s : State) : Result := callIf .z a16 s

/-- R346: `CALL NC,a16`. -/
def execCallNcA16 (a16 : Word) (s : State) : Result := callIf .nc a16 s

/-- R346: `CALL C,a16`. -/
def execCallCA16 (a16 : Word) (s : State) : Result := callIf .c a16 s

/-- R347: `RET`. -/
def execRet (s : State) : Result :=
  .next ((s.ret).charge 16)

/-- R348: `RET NZ`. -/
def execRetNz (s : State) : Result := retIf .nz s

/-- R348: `RET Z`. -/
def execRetZ (s : State) : Result := retIf .z s

/-- R348: `RET NC`. -/
def execRetNc (s : State) : Result := retIf .nc s

/-- R348: `RET C`. -/
def execRetC (s : State) : Result := retIf .c s

/-- R349: `RETI`. -/
def execReti (s : State) : Result :=
  .next ((s.returnFromInterrupt).charge 16)

/-- R350: `RST 0x00`. -/
def execRst00 (s : State) : Result := restart 0x00 s

/-- R350: `RST 0x08`. -/
def execRst08 (s : State) : Result := restart 0x08 s

/-- R350: `RST 0x10`. -/
def execRst10 (s : State) : Result := restart 0x10 s

/-- R350: `RST 0x18`. -/
def execRst18 (s : State) : Result := restart 0x18 s

/-- R350: `RST 0x20`. -/
def execRst20 (s : State) : Result := restart 0x20 s

/-- R350: `RST 0x28`. -/
def execRst28 (s : State) : Result := restart 0x28 s

/-- R350: `RST 0x30`. -/
def execRst30 (s : State) : Result := restart 0x30 s

/-- R350: `RST 0x38`. -/
def execRst38 (s : State) : Result := restart 0x38 s

end Sys2Proof.Machine
end

