-- ==== Sys2Proof/Machine/Load16.lean ====
section
/-! DEFINITION. The 16-bit loads and the stack instructions (41_load16_stack.md). -/

namespace Sys2Proof.Machine

/-- `LD rr,n16` (R230). -/
def loadPairImm (p : Pair) (n16 : Word) (s : State) : Result := .next ((s.setPair p n16).charge 12)

/-- `PUSH rr` (R234). -/
def pushPair (p : StackPair) (s : State) : Result := .next ((s.push16 (s.stackPair p)).charge 16)

/-- `POP rr` (R235); for AF the low half goes through F's mask (R237). -/
def popPair (p : StackPair) (s : State) : Result :=
  .next (((s.dropWord).setStackPair p s.poppedWord).charge 12)

/-- R230: `LD BC,n16`. -/
def execLdBcN16 (n16 : Word) (s : State) : Result := loadPairImm .bc n16 s

/-- R230: `LD DE,n16`. -/
def execLdDeN16 (n16 : Word) (s : State) : Result := loadPairImm .de n16 s

/-- R230: `LD HL,n16`. -/
def execLdHlN16 (n16 : Word) (s : State) : Result := loadPairImm .hl n16 s

/-- R230: `LD SP,n16`. -/
def execLdSpN16 (n16 : Word) (s : State) : Result := loadPairImm .sp n16 s

/-- R231: `LD (a16),SP`. -/
def execLdAtA16Sp (a16 : Word) (s : State) : Result :=
  .next ((s.write16 a16 s.cpu.sp).charge 20)

/-- R232: `LD SP,HL`. -/
def execLdSpHl (s : State) : Result :=
  .next ((s.setSp s.hl).charge 8)

/-- R233: `LD HL,SP+e8`. -/
def execLdHlSpE8 (e8 : Byte) (s : State) : Result :=
  .next (((s.setHl (addSpE8 s.cpu.sp e8).1).setFlags (addSpE8 s.cpu.sp e8).2).charge 12)

/-- R234: `PUSH BC`. -/
def execPushBc (s : State) : Result := pushPair .bc s

/-- R234: `PUSH DE`. -/
def execPushDe (s : State) : Result := pushPair .de s

/-- R234: `PUSH HL`. -/
def execPushHl (s : State) : Result := pushPair .hl s

/-- R234: `PUSH AF`. -/
def execPushAf (s : State) : Result := pushPair .af s

/-- R235: `POP BC`. -/
def execPopBc (s : State) : Result := popPair .bc s

/-- R235: `POP DE`. -/
def execPopDe (s : State) : Result := popPair .de s

/-- R235: `POP HL`. -/
def execPopHl (s : State) : Result := popPair .hl s

/-- R237: `POP AF`. -/
def execPopAf (s : State) : Result := popPair .af s

end Sys2Proof.Machine
end

