-- ==== Sys2Proof/Machine/Load8.lean ====
section
/-! DEFINITION. The 8-bit loads (40_load8.md): the shared operations, and one meaning per instruction. No load changes a flag. -/

namespace Sys2Proof.Machine

/-- `LD r,r'` (R200). -/
def loadRegReg (dst r : Reg8) (s : State) : Result := .next ((s.setReg dst (s.reg r)).charge 4)

/-- `LD r,n8` (R201). -/
def loadRegImm (dst : Reg8) (n8 : Byte) (s : State) : Result := .next ((s.setReg dst n8).charge 8)

/-- `LD r,(HL)` (R202): HL is read before the register is written. -/
def loadRegAtHl (dst : Reg8) (s : State) : Result := .next ((s.setReg dst (s.memRead s.hl)).charge 8)

/-- `LD (HL),r` (R203). -/
def storeAtHlReg (r : Reg8) (s : State) : Result := .next ((s.memWrite s.hl (s.reg r)).charge 8)

/-- A load of A from an address at a cost (R205, R206, R209, R211, R213). -/
def loadA (addr : Word) (cost : Nat) (s : State) : Result := .next ((s.setA (s.memRead addr)).charge cost)

/-- A store of A to an address at a cost (R207, R208, R210, R212, R214). -/
def storeA (addr : Word) (cost : Nat) (s : State) : Result := .next ((s.memWrite addr s.cpu.a).charge cost)

/-- `LD A,(HL+)` and `LD A,(HL-)`: load from HL, then move HL by `delta` (R215, R216). -/
def loadAMoveHl (delta : Word) (s : State) : Result :=
  .next (((s.setA (s.memRead s.hl)).setHl (s.hl + delta)).charge 8)

/-- `LD (HL+),A` and `LD (HL-),A`: store at the HL from before it moves by `delta` (R217, R218). -/
def storeAMoveHl (delta : Word) (s : State) : Result :=
  .next (((s.memWrite s.hl s.cpu.a).setHl (s.hl + delta)).charge 8)

/-! ## LD r,r' -/

/-- R200: `LD B,B`. -/
def execLdBB (s : State) : Result := loadRegReg .b .b s

/-- R200: `LD B,C`. -/
def execLdBC (s : State) : Result := loadRegReg .b .c s

/-- R200: `LD B,D`. -/
def execLdBD (s : State) : Result := loadRegReg .b .d s

/-- R200: `LD B,E`. -/
def execLdBE (s : State) : Result := loadRegReg .b .e s

/-- R200: `LD B,H`. -/
def execLdBH (s : State) : Result := loadRegReg .b .h s

/-- R200: `LD B,L`. -/
def execLdBL (s : State) : Result := loadRegReg .b .l s

/-- R200: `LD B,A`. -/
def execLdBA (s : State) : Result := loadRegReg .b .a s

/-- R200: `LD C,B`. -/
def execLdCB (s : State) : Result := loadRegReg .c .b s

/-- R200: `LD C,C`. -/
def execLdCC (s : State) : Result := loadRegReg .c .c s

/-- R200: `LD C,D`. -/
def execLdCD (s : State) : Result := loadRegReg .c .d s

/-- R200: `LD C,E`. -/
def execLdCE (s : State) : Result := loadRegReg .c .e s

/-- R200: `LD C,H`. -/
def execLdCH (s : State) : Result := loadRegReg .c .h s

/-- R200: `LD C,L`. -/
def execLdCL (s : State) : Result := loadRegReg .c .l s

/-- R200: `LD C,A`. -/
def execLdCA (s : State) : Result := loadRegReg .c .a s

/-- R200: `LD D,B`. -/
def execLdDB (s : State) : Result := loadRegReg .d .b s

/-- R200: `LD D,C`. -/
def execLdDC (s : State) : Result := loadRegReg .d .c s

/-- R200: `LD D,D`. -/
def execLdDD (s : State) : Result := loadRegReg .d .d s

/-- R200: `LD D,E`. -/
def execLdDE (s : State) : Result := loadRegReg .d .e s

/-- R200: `LD D,H`. -/
def execLdDH (s : State) : Result := loadRegReg .d .h s

/-- R200: `LD D,L`. -/
def execLdDL (s : State) : Result := loadRegReg .d .l s

/-- R200: `LD D,A`. -/
def execLdDA (s : State) : Result := loadRegReg .d .a s

/-- R200: `LD E,B`. -/
def execLdEB (s : State) : Result := loadRegReg .e .b s

/-- R200: `LD E,C`. -/
def execLdEC (s : State) : Result := loadRegReg .e .c s

/-- R200: `LD E,D`. -/
def execLdED (s : State) : Result := loadRegReg .e .d s

/-- R200: `LD E,E`. -/
def execLdEE (s : State) : Result := loadRegReg .e .e s

/-- R200: `LD E,H`. -/
def execLdEH (s : State) : Result := loadRegReg .e .h s

/-- R200: `LD E,L`. -/
def execLdEL (s : State) : Result := loadRegReg .e .l s

/-- R200: `LD E,A`. -/
def execLdEA (s : State) : Result := loadRegReg .e .a s

/-- R200: `LD H,B`. -/
def execLdHB (s : State) : Result := loadRegReg .h .b s

/-- R200: `LD H,C`. -/
def execLdHC (s : State) : Result := loadRegReg .h .c s

/-- R200: `LD H,D`. -/
def execLdHD (s : State) : Result := loadRegReg .h .d s

/-- R200: `LD H,E`. -/
def execLdHE (s : State) : Result := loadRegReg .h .e s

/-- R200: `LD H,H`. -/
def execLdHH (s : State) : Result := loadRegReg .h .h s

/-- R200: `LD H,L`. -/
def execLdHL (s : State) : Result := loadRegReg .h .l s

/-- R200: `LD H,A`. -/
def execLdHA (s : State) : Result := loadRegReg .h .a s

/-- R200: `LD L,B`. -/
def execLdLB (s : State) : Result := loadRegReg .l .b s

/-- R200: `LD L,C`. -/
def execLdLC (s : State) : Result := loadRegReg .l .c s

/-- R200: `LD L,D`. -/
def execLdLD (s : State) : Result := loadRegReg .l .d s

/-- R200: `LD L,E`. -/
def execLdLE (s : State) : Result := loadRegReg .l .e s

/-- R200: `LD L,H`. -/
def execLdLH (s : State) : Result := loadRegReg .l .h s

/-- R200: `LD L,L`. -/
def execLdLL (s : State) : Result := loadRegReg .l .l s

/-- R200: `LD L,A`. -/
def execLdLA (s : State) : Result := loadRegReg .l .a s

/-- R200: `LD A,B`. -/
def execLdAB (s : State) : Result := loadRegReg .a .b s

/-- R200: `LD A,C`. -/
def execLdAC (s : State) : Result := loadRegReg .a .c s

/-- R200: `LD A,D`. -/
def execLdAD (s : State) : Result := loadRegReg .a .d s

/-- R200: `LD A,E`. -/
def execLdAE (s : State) : Result := loadRegReg .a .e s

/-- R200: `LD A,H`. -/
def execLdAH (s : State) : Result := loadRegReg .a .h s

/-- R200: `LD A,L`. -/
def execLdAL (s : State) : Result := loadRegReg .a .l s

/-- R200: `LD A,A`. -/
def execLdAA (s : State) : Result := loadRegReg .a .a s

/-! ## LD r,n8 -/

/-- R201: `LD B,n8`. -/
def execLdBN8 (n8 : Byte) (s : State) : Result := loadRegImm .b n8 s

/-- R201: `LD C,n8`. -/
def execLdCN8 (n8 : Byte) (s : State) : Result := loadRegImm .c n8 s

/-- R201: `LD D,n8`. -/
def execLdDN8 (n8 : Byte) (s : State) : Result := loadRegImm .d n8 s

/-- R201: `LD E,n8`. -/
def execLdEN8 (n8 : Byte) (s : State) : Result := loadRegImm .e n8 s

/-- R201: `LD H,n8`. -/
def execLdHN8 (n8 : Byte) (s : State) : Result := loadRegImm .h n8 s

/-- R201: `LD L,n8`. -/
def execLdLN8 (n8 : Byte) (s : State) : Result := loadRegImm .l n8 s

/-- R201: `LD A,n8`. -/
def execLdAN8 (n8 : Byte) (s : State) : Result := loadRegImm .a n8 s

/-! ## LD r,(HL) -/

/-- R202: `LD B,(HL)`. -/
def execLdBAtHl (s : State) : Result := loadRegAtHl .b s

/-- R202: `LD C,(HL)`. -/
def execLdCAtHl (s : State) : Result := loadRegAtHl .c s

/-- R202: `LD D,(HL)`. -/
def execLdDAtHl (s : State) : Result := loadRegAtHl .d s

/-- R202: `LD E,(HL)`. -/
def execLdEAtHl (s : State) : Result := loadRegAtHl .e s

/-- R202: `LD H,(HL)`. -/
def execLdHAtHl (s : State) : Result := loadRegAtHl .h s

/-- R202: `LD L,(HL)`. -/
def execLdLAtHl (s : State) : Result := loadRegAtHl .l s

/-- R202: `LD A,(HL)`. -/
def execLdAAtHl (s : State) : Result := loadRegAtHl .a s

/-! ## LD (HL),r and LD (HL),n8 -/

/-- R203: `LD (HL),B`. -/
def execLdAtHlB (s : State) : Result := storeAtHlReg .b s

/-- R203: `LD (HL),C`. -/
def execLdAtHlC (s : State) : Result := storeAtHlReg .c s

/-- R203: `LD (HL),D`. -/
def execLdAtHlD (s : State) : Result := storeAtHlReg .d s

/-- R203: `LD (HL),E`. -/
def execLdAtHlE (s : State) : Result := storeAtHlReg .e s

/-- R203: `LD (HL),H`. -/
def execLdAtHlH (s : State) : Result := storeAtHlReg .h s

/-- R203: `LD (HL),L`. -/
def execLdAtHlL (s : State) : Result := storeAtHlReg .l s

/-- R203: `LD (HL),A`. -/
def execLdAtHlA (s : State) : Result := storeAtHlReg .a s

/-- R204: `LD (HL),n8`. -/
def execLdAtHlN8 (n8 : Byte) (s : State) : Result :=
  .next ((s.memWrite s.hl n8).charge 12)

/-! ## Loads and stores of A -/

/-- R205: `LD A,(BC)`. -/
def execLdAAtBc (s : State) : Result :=
  loadA s.bc 8 s

/-- R206: `LD A,(DE)`. -/
def execLdAAtDe (s : State) : Result :=
  loadA s.de 8 s

/-- R207: `LD (BC),A`. -/
def execLdAtBcA (s : State) : Result :=
  storeA s.bc 8 s

/-- R208: `LD (DE),A`. -/
def execLdAtDeA (s : State) : Result :=
  storeA s.de 8 s

/-- R209: `LD A,(a16)`. -/
def execLdAAtA16 (a16 : Word) (s : State) : Result :=
  loadA a16 16 s

/-- R210: `LD (a16),A`. -/
def execLdAtA16A (a16 : Word) (s : State) : Result :=
  storeA a16 16 s

/-- R211: `LDH A,(a8)`. -/
def execLdhAAtA8 (a8 : Byte) (s : State) : Result :=
  loadA (highPage a8) 12 s

/-- R212: `LDH (a8),A`. -/
def execLdhAtA8A (a8 : Byte) (s : State) : Result :=
  storeA (highPage a8) 12 s

/-- R213: `LD A,(C)`. -/
def execLdAAtC (s : State) : Result :=
  loadA (highPage s.cpu.c) 8 s

/-- R214: `LD (C),A`. -/
def execLdAtCA (s : State) : Result :=
  storeA (highPage s.cpu.c) 8 s

/-- R215: `LD A,(HL+)`. -/
def execLdAAtHlInc (s : State) : Result :=
  loadAMoveHl 1 s

/-- R216: `LD A,(HL-)`. -/
def execLdAAtHlDec (s : State) : Result :=
  loadAMoveHl (-1) s

/-- R217: `LD (HL+),A`. -/
def execLdAtHlIncA (s : State) : Result :=
  storeAMoveHl 1 s

/-- R218: `LD (HL-),A`. -/
def execLdAtHlDecA (s : State) : Result :=
  storeAMoveHl (-1) s

end Sys2Proof.Machine
end

