-- ==== Sys2Proof/Machine/System.lean ====
section
/-! DEFINITION. The system and interrupt-control instructions (46_system.md) and the illegal opcodes (30_encoding.md rule R182). -/

namespace Sys2Proof.Machine



/-- R370: `NOP`. -/
def execNop (s : State) : Result :=
  .next (s.charge 4)

/-- R371: `STOP`, a two-byte no-op; its operand byte was fetched and is ignored. -/
def execStop (_operand : Byte) (s : State) : Result :=
  .next (s.charge 4)

/-- R372: `HALT`. -/
def execHalt (s : State) : Result :=
  .next ((s.setHalted true).charge 4)

/-- R374: `DI`. -/
def execDi (s : State) : Result :=
  .next ((s.setIme .disabled).charge 4)

/-- R375: `EI`. -/
def execEi (s : State) : Result :=
  .next ((if s.cpu.ime = .disabled then s.setIme .pending else s).charge 4)

/-- R182, R420: the fetch of an illegal byte raises UnknownOpcode; PC is one past the byte, so the byte's own address is
PC − 1. The state it leaves is the faulted one: `step` on it answers the fault. -/
def execIllegal (op : Byte) (s : State) : Result :=
  .next (s.raiseUnknownOpcode op (s.cpu.pc - 1))

end Sys2Proof.Machine
end

