-- ==== Sys2Proof/Machine/Input.lean ====
section
/-! DEFINITION. What the host does between system steps (60_exceptions.md rules R440, R441, R444). -/

namespace Sys2Proof.Machine

/-- One input event (R441): a press always requests the Joypad interrupt, a release does not; a quit only marks the end
of the run (R445), which comes after the step of this boundary (log 16). -/
def State.applyEvent (s : State) (ev : InputEvent) : State :=
  match ev with
  | .press btn => ({ s with pressed := s.pressed ||| bitMask btn.index }).requestInterrupt 4
  | .release btn => { s with pressed := s.pressed &&& ~~~(bitMask btn.index) }
  | .quit => { s with launch := { s.launch with quit := true } }

/-- The events of this step boundary, in order; the schedule moves on to the next boundary. -/
def State.applyInput (s : State) : State :=
  match s.launch.input with
  | [] => s
  | evs :: rest => evs.foldl State.applyEvent { s with launch := { s.launch with input := rest } }

/-- The step begins with nothing handed to the host (log 5). -/
def State.clearOutput (s : State) : State := { s with out := { frame := none, audio := [] } }

/-- The bytes the host may write back on quit: all of `ERAM`, for a battery cartridge only (R112, R444). -/
def State.saveRam (s : State) : Option (List Byte) :=
  if s.cart.cartType = 0x03 then some ((List.range s.cart.eramBytes).map (s.mem.get .eram)) else none

end Sys2Proof.Machine
end

