-- ==== Sys2Proof/Machine/Render.lean ====
section
/-! DEFINITION. Frame compositing (61_devices_ppu.md rules R460 to R471). The renderer reads the storage arrays directly,
never through the bus (R470), and writes nothing but its frame. Each pixel is a function of its place: the
background or window pixel, then the sprites in ascending OAM index, each drawn over the one before (R465). -/

namespace Sys2Proof.Machine

/-- A background or window pixel: its colour index, its BG-over-sprite priority, its colour (R460). -/
structure BgPixel where
  ci : Nat
  pri : Bool
  colour : Pixel
  deriving DecidableEq, Repr

/-- `VRAMb[a]` (R461): bank 0 is `M`, bank 1 is `VRAM1`. -/
def State.vramByte (s : State) (bank : Bool) (a : Nat) : Byte :=
  if bank then s.mem.get .vram1 (a - 0x8000) else s.io a

/-- The colour index of column `c`, row `r` of the tile at `base` (R461). -/
def State.tileColour (s : State) (bank : Bool) (base c r : Nat) : Nat :=
  let lo := s.vramByte bank (base + 2 * r)
  let hi := s.vramByte bank (base + 2 * r + 1)
  (bit hi (7 - c)).toNat * 2 + (bit lo (7 - c)).toNat

/-- LCDC (R61). -/
def State.lcdc (s : State) : Byte := s.io 0xFF40

/-- The tile data address of background and window tile index `t` (R461): unsigned from 0x8000 or signed from 0x9000. -/
def State.bgTileBase (s : State) (t : Byte) : Nat :=
  if bit s.lcdc 4 then 0x8000 + 16 * t.toNat else (0x9000 + 16 * t.toInt).toNat

/-- `Shade(P, ci)` (R466). -/
def shade (palette : Byte) (ci : Nat) : Pixel := .shade (BitVec.ofNat 2 (palette.toNat / 4 ^ ci))

/-- `CgbColour(PAL, p, ci)` (R466). -/
def State.cgbColour (s : State) (pal : Store) (p ci : Nat) : Pixel :=
  .rgb ((joinBytes (s.mem.get pal (8 * p + 2 * ci + 1)) (s.mem.get pal (8 * p + 2 * ci))).setWidth 15)

/-- `TilePixel(m, c, r)` (R462): the tile map byte at `m`, with the Color mode attribute byte of bank 1. -/
def State.tilePixel (s : State) (m c r : Nat) : BgPixel :=
  let t := s.io m
  let attr : Byte := if s.cart.colorMode then s.mem.get .vram1 (m - 0x8000) else 0
  let row := if bit attr 6 then 7 - r else r
  let col := if bit attr 5 then 7 - c else c
  let ci := s.tileColour (bit attr 3) (s.bgTileBase t) col row
  { ci := ci
    pri := bit attr 7
    colour := if s.cart.colorMode then s.cgbColour .bgpal (attr.toNat % 8) ci else shade (s.io 0xFF47) ci }

/-- Background and window are switched off: monochrome mode with LCDC bit 0 = 0 (R462, R463, R467). -/
def State.bgOff (s : State) : Bool := !s.cart.colorMode && !bit s.lcdc 0

/-- The tile map that a LCDC bit selects (R462, R463). -/
def State.tileMap (s : State) (sel : Nat) : Nat := if bit s.lcdc sel then 0x9C00 else 0x9800

/-- `Background(x, y)` (R462): the scroll wraps at 256 in both axes. -/
def State.background (s : State) (x y : Nat) : BgPixel :=
  if s.bgOff then { ci := 0, pri := false, colour := shade (s.io 0xFF47) 0 }
  else
    let sx := (x + (s.io 0xFF43).toNat) % 256
    let sy := (y + (s.io 0xFF42).toNat) % 256
    s.tilePixel (s.tileMap 3 + 32 * (sy / 8) + sx / 8) (sx % 8) (sy % 8)

/-- `WindowCovers(x, y)` (R463). `x >= WX − 7` is written without a negative number. -/
def State.windowCovers (s : State) (x y : Nat) : Bool :=
  let wx := (s.io 0xFF4B).toNat
  let wy := (s.io 0xFF4A).toNat
  !s.bgOff && bit s.lcdc 5 && decide (wx ≤ 166) && decide (wy ≤ 143) && decide (wy ≤ y) && decide (wx ≤ x + 7)

/-- `Window(x, y)` (R463): its line is the distance from its top. -/
def State.window (s : State) (x y : Nat) : BgPixel :=
  let wx := x + 7 - (s.io 0xFF4B).toNat
  let wy := y - (s.io 0xFF4A).toNat
  s.tilePixel (s.tileMap 6 + 32 * (wy / 8) + wx / 8) (wx % 8) (wy % 8)

/-- The pixel under the sprites (R460). -/
def State.bgPixel (s : State) (x y : Nat) : BgPixel :=
  if s.windowCovers x y then s.window x y else s.background x y

/-- `BgWins(x, y, a)` (R465): a sprite of attributes `attr` is hidden by the background pixel. -/
def State.bgWins (s : State) (bg : BgPixel) (attr : Byte) : Bool :=
  if s.cart.colorMode && !bit s.lcdc 0 then false
  else if bg.ci = 0 then false
  else bit attr 7 || (s.cart.colorMode && bg.pri)

/-- The sprite height LCDC bit 2 selects for all entries (R464, 90_conflicts.md C6). -/
def State.spriteHeight (s : State) : Nat := if bit s.lcdc 2 then 16 else 8

/-- What OAM entry `i` shows at a screen place, if it covers it with a colour other than 0 (R464, R465). -/
def State.spriteColour (s : State) (i x y : Nat) : Option (Nat × Byte) :=
  let oy := (s.io (0xFE00 + 4 * i)).toNat
  let ox := (s.io (0xFE00 + 4 * i + 1)).toNat
  let t := (s.io (0xFE00 + 4 * i + 2)).toNat
  let attr := s.io (0xFE00 + 4 * i + 3)
  let h := s.spriteHeight
  if oy ≤ y + 16 ∧ y + 16 < oy + h ∧ ox ≤ x + 8 ∧ x + 8 < ox + 8 then
    let row := y + 16 - oy
    let col := x + 8 - ox
    let r := if bit attr 6 then h - 1 - row else row
    let c := if bit attr 5 then 7 - col else col
    let tt := if h = 16 then t / 2 * 2 + r / 8 else t
    let ci := s.tileColour (s.cart.colorMode && bit attr 3) (0x8000 + 16 * tt) c (r % 8)
    if ci = 0 then none else some (ci, attr)
  else none

/-- The colour of sprite colour index `ci` with attributes `attr` (R465). -/
def State.spritePixel (s : State) (ci : Nat) (attr : Byte) : Pixel :=
  if s.cart.colorMode then s.cgbColour .objpal (attr.toNat % 8) ci
  else shade (if bit attr 4 then s.io 0xFF49 else s.io 0xFF48) ci

/-- Entry `i` drawn over what is there (R465). -/
def State.drawSprite (s : State) (bg : BgPixel) (x y : Nat) (under : Pixel) (i : Nat) : Pixel :=
  match s.spriteColour i x y with
  | none => under
  | some (ci, attr) => if s.bgWins bg attr then under else s.spritePixel ci attr

/-- The final pixel at column `x`, row `y` (R460, R465). -/
def State.pixel (s : State) (x y : Nat) : Pixel :=
  let bg := s.bgPixel x y
  if bit s.lcdc 1 then (List.range Config.oamEntries).foldl (s.drawSprite bg x y) bg.colour else bg.colour

/-- A frame whose pixel at column `x`, row `y` is `f x y` (R471). -/
def frameOf (f : Nat → Nat → Pixel) : Frame :=
  (List.range Config.visibleLines).map fun y => (List.range Config.screenWidth).map fun x => f x y

/-- `render_frame()` (R460). -/
def State.renderFrame (s : State) : Frame := frameOf s.pixel

/-- The frame of a switched-off LCD: shade 0, or 0x7FFF in Color mode (R455). -/
def State.whiteFrame (s : State) : Frame :=
  frameOf fun _ _ => if s.cart.colorMode then .rgb 0x7FFF else .shade 0

end Sys2Proof.Machine
end

