-- ==== Sys2Proof/Machine/Ppu.lean ====
section
/-! DEFINITION. The PPU's scanline state machine, its interrupts and the frame it emits (61_devices_ppu.md rules
R450 to R456). -/

namespace Sys2Proof.Machine

/-- LCDC bit 7 (R61, R456). -/
def State.lcdOn (s : State) : Bool := bit s.lcdc 7

/-- The STAT bit that enables the interrupt of entering a mode; mode 3 has none (R453). -/
def PpuMode.enableBit (m : PpuMode) : Option Nat :=
  match m with
  | .hBlank => some 3
  | .vBlank => some 4
  | .oamScan => some 5
  | .drawing => none

/-- The STAT interrupt that entering mode `m` requests (R453). -/
def State.modeInterrupt (s : State) (m : PpuMode) : State :=
  match m.enableBit with
  | some k => if s.lcdOn && bit (s.io 0xFF41) k then s.requestInterrupt 1 else s
  | none => s

/-- `SetMode(m)` (R451). -/
def State.setMode (s : State) (m : PpuMode) : State :=
  if s.ppu.mode = m then s else ({ s with ppu := { s.ppu with mode := m } }).modeInterrupt m

/-- `EmitFrame()` (R455): the frame goes to the host. -/
def State.emitFrame (s : State) : State :=
  { s with out := { s.out with frame := some (if s.lcdOn then s.renderFrame else s.whiteFrame) } }

/-- VBlank entry (R451, R452): mode 1, then the request, then the frame. -/
def State.enterVBlank (s : State) : State :=
  let s1 := s.setMode .vBlank
  (if s1.lcdOn then s1.requestInterrupt 0 else s1).emitFrame

/-- The scanline boundary: the next line, 153 going to 0 (R451). -/
def State.nextLine (s : State) : State :=
  let s1 := { s with ppu := { s.ppu with dot := 0, ly := (s.ppu.ly + 1) % Config.linesPerFrame } }
  if s1.ppu.ly = Config.visibleLines then s1.enterVBlank
  else if s1.ppu.ly < Config.visibleLines then s1.setMode .oamScan
  else s1

/-- One dot of `PpuAdvance` (R451). -/
def State.ppuTick (s : State) : State :=
  if s.ppu.dot + 1 = Config.dotsPerLine then s.nextLine
  else
    let s1 := { s with ppu := { s.ppu with dot := s.ppu.dot + 1 } }
    if s1.ppu.ly < Config.visibleLines ∧ s1.ppu.dot = 80 then s1.setMode .drawing
    else if s1.ppu.ly < Config.visibleLines ∧ s1.ppu.dot = 252 then s1.setMode .hBlank
    else s1

/-- The LY == LYC comparison (R454). -/
def State.coincidence (s : State) : Bool := decide (s.ppu.ly = (s.io 0xFF45).toNat)

/-- `CoincidenceCheck()` (R454): a 0-to-1 change requests STAT when the LCD is on and STAT bit 6 is set. -/
def State.coincidenceCheck (s : State) : State :=
  let s1 := if s.lcdOn && !s.ppu.coinc && s.coincidence && bit (s.io 0xFF41) 6 then s.requestInterrupt 1 else s
  { s1 with ppu := { s1.ppu with coinc := s.coincidence } }

/-- `PpuAdvance(n)` (R451): n dots, then one coincidence check. -/
def State.ppuAdvance (s : State) (n : Nat) : State := (iterate State.ppuTick n s).coincidenceCheck

/-- `ApuAdvance(n)` (R500): the channels and the sample stream over n cycles; the batches go to the host (R507). -/
def State.apuAdvance (s : State) (n : Nat) : State :=
  let run := iterate (apuTick (ApuRegs.ofMemory s.mem) s.launch.sampleRate s.launch.batchSize) n
    { apu := s.apu, done := s.out.audio }
  { s with apu := run.apu, out := { s.out with audio := run.done } }

end Sys2Proof.Machine
end

