-- ==== Sys2Proof/Machine/Timer.lean ====
section
/-! DEFINITION. The timer (60_exceptions.md rules R430 to R433). -/

namespace Sys2Proof.Machine

/-- The divider bit that TAC bits 1-0 select (R430). -/
def timerBit (tac : Byte) : Nat :=
  match tac.toNat % 4 with
  | 0 => 9
  | 1 => 3
  | 2 => 5
  | _ => 7

/-- What a falling edge does to TIMA: it counts, and an overflow reloads it from TMA and requests the Timer interrupt (R431). -/
def State.timerCount (s : State) : State :=
  if s.io 0xFF05 = 0xFF then (s.setIo 0xFF05 (s.io 0xFF06)).requestInterrupt 2
  else s.setIo 0xFF05 (s.io 0xFF05 + 1)

/-- The selected bit falls from 1 to 0 on this increment, with TAC's enable bit set (R431). -/
def timerEdge (tac : Byte) (old new : Word) : Bool :=
  bit tac 2 && old.getLsbD (timerBit tac) && !new.getLsbD (timerBit tac)

/-- One cycle of `TimerAdvance` (R431). -/
def State.timerTick (s : State) : State :=
  let s1 := { s with divider := s.divider + 1 }
  if timerEdge (s.io 0xFF07) s.divider s1.divider then s1.timerCount else s1

/-- `TimerAdvance(n)` (R431). -/
def State.timerAdvance (s : State) (n : Nat) : State := iterate State.timerTick n s

end Sys2Proof.Machine
end

