-- ==== Sys2Proof/Machine/Step.lean ====
section
/-! DEFINITION. The system step (60_exceptions.md rule R400): the host's input of this boundary, one CPU instruction or
a halted skip, then timer, PPU, APU and interrupt service over its cycles. -/

namespace Sys2Proof.Machine

/-- The instruction at PC: every byte is read through the bus (R171), in increasing address order modulo 2^16. Reads
have no side effect (R107), so reading three bytes for a shorter instruction changes nothing. -/
def State.fetched (s : State) : Instr :=
  decodeOp (s.memRead s.cpu.pc) (s.memRead (s.cpu.pc + 1)) (s.memRead (s.cpu.pc + 2))

/-- The address of the byte after the instruction at PC (R35, R184). -/
def State.nextPc (s : State) : Word := s.cpu.pc + BitVec.ofNat 16 (opcodeLength (s.memRead s.cpu.pc))

/-- `CpuStep()` (R171): PC moves past the instruction, then the instruction executes. -/
def cpuStep (s : State) : Result := exec s.fetched (s.setPc s.nextPc)

/-- IME promotion (R402): `before` is IME at the start of the step, and the instruction left it at 2. -/
def State.promoteIme (s : State) (before : Ime) : State :=
  if before = .pending ∧ s.cpu.ime = .pending then s.setIme .enabled else s

/-- The device advances of a step over its cycles, then interrupt service, in this order (R400). -/
def State.advance (s : State) : State :=
  (((s.timerAdvance s.cycles).ppuAdvance s.cycles).apuAdvance s.cycles).service

/-- The end of a step whose CPU part left `s`: an UnknownOpcode ends it at once (R400), and no device advances. -/
def State.finishStep (s : State) (before : Ime) : State :=
  if s.fault.isSome then s else (s.promoteIme before).advance

/-- `SystemStep()` (R400); a halted step fetches nothing and costs 4 cycles (R401). -/
def systemStep (s : State) : Result :=
  if s.cpu.halted then .next (s.charge 4).advance
  else
    match cpuStep s with
    | .next s1 => .next (s1.finishStep s.cpu.ime)
    | .fault r => .fault r
    | .refused r => .refused r

/-- What the CPU part of a step starts from: nothing handed to the host yet, and this boundary's events applied (R440, R441). -/
def State.atBoundary (s : State) : State := s.clearOutput.applyInput

/-- One step. "A faulted machine takes no step" (R400, R420). -/
def step (s : State) : Host.Outcome State Fault Refusal :=
  match s.fault with
  | some r => .fault (.unknownOpcode r.op r.addr)
  | none => systemStep s.atBoundary

/-! ## Placing an instruction for the next step -/

/-- The machine with the byte `v` put behind the address `addr`, in the storage that a fetch there reads: the image (which
grows to hold it), a RAM bank, or `M`. -/
def State.placeByte (s : State) (addr : Word) (v : Byte) : State :=
  let a := addr.toNat
  if a < 0x8000 then
    { s.store .rom (s.romOffset a) v with
      cart := { s.cart with romLen := max s.cart.romLen (s.romOffset a + 1) } }
  else if a < 0xA000 then s.store (s.vramCell a).1 (s.vramCell a).2 v
  else if a < 0xC000 then s.store .eram (s.eramOffset a) v
  else if 0xD000 ≤ a ∧ a < 0xE000 then s.store .wramx (s.wramIndex a) v
  else s.setIo a v

/-- The machine with the word `w` of the opcode table placed at PC, so that the next step fetches and runs it: the load
from outside the machine (log 2). The CPU is taken out of HALT and of a fault, which would fetch nothing. -/
def State.withFetchWord (s : State) (nbits w : Nat) : State :=
  let bytes := tableWordBytes nbits w
  let s1 := { s.setHalted false with fault := none }
  ((s1.placeByte s.cpu.pc (bytes.getD 0 0)).placeByte (s.cpu.pc + 1) (bytes.getD 1 0)).placeByte (s.cpu.pc + 2)
    (bytes.getD 2 0)

end Sys2Proof.Machine
end

