-- ==== Sys2Proof/Machine/Load.lean ====
section
/-! DEFINITION. The load that precedes the one reset (70_reset_and_hazards.md rules R550 to R553): a machine for every
image, save blob, initial memory, input schedule and audio parameter, or a refusal. -/

namespace Sys2Proof.Machine

/-- The launch (00_scope.md rule R8), except `P_END`, which belongs to the run (R445). -/
structure LaunchParams where
  /-- `P_ROM`; absent when it is missing, unreadable or unallocatable -/
  rom : Option (List Byte)
  /-- `P_SAVE_RAM` -/
  saveRam : Option (List Byte)
  /-- `P_INIT_MEM` for `M`, as cells; a byte with no cell starts as 0x00 -/
  initM : List Host.Cell
  /-- `P_INIT_MEM` for `VRAM1`, offsets 0 to 0x1FFF -/
  initVram1 : List Host.Cell
  /-- `P_INIT_MEM` for `WRAMX`, indices `bank * 0x1000 + offset` -/
  initWramx : List Host.Cell
  /-- `P_INIT_MEM` for `BGPAL`, offsets 0 to 63 -/
  initBgpal : List Host.Cell
  /-- `P_INIT_MEM` for `OBJPAL`, offsets 0 to 63 -/
  initObjpal : List Host.Cell
  /-- `P_SAMPLE_RATE` -/
  sampleRate : Nat
  /-- `P_BATCH` -/
  batchSize : Nat
  /-- `P_INPUT` -/
  input : List (List InputEvent)
  deriving DecidableEq, Repr

/-- The constraints R8 puts on the audio parameters. -/
def LaunchParams.ok (p : LaunchParams) : Bool :=
  decide (0 < p.sampleRate) && decide (p.sampleRate ≤ Config.clockHz) && decide (1 ≤ p.batchSize)

/-- The mapper of a cartridge type; any type outside the table has none (R112). -/
def mapperOf (cartType : Byte) : Option Mapper :=
  match cartType.toNat with
  | 0 => some .romOnly
  | 1 => some .mbc1
  | 2 => some .mbc1
  | 3 => some .mbc1
  | _ => none

/-- The bytes of external RAM a RAM-size code names; any code outside the table names none (R112). -/
def ramBytesOf (ramSize : Byte) : Option Nat :=
  match ramSize.toNat with
  | 0 => some 0
  | 1 => some 2048
  | 2 => some 8192
  | 3 => some 32768
  | 4 => some 131072
  | 5 => some 65536
  | _ => none

/-- Types 0x02 and 0x03 have the external RAM their header names, the others none (R112). -/
def hasRam (cartType : Byte) : Bool := decide (cartType = 0x02) || decide (cartType = 0x03)

/-- Only type 0x03 has a battery (R112). -/
def hasBattery (cartType : Byte) : Bool := decide (cartType = 0x03)

/-- Color mode is chosen by two values of the CGB flag (R113). -/
def isColor (cgbFlag : Byte) : Bool := decide (cgbFlag = 0x80) || decide (cgbFlag = 0xC0)

/-- The external RAM at load: the save blob cut to the size for a battery cartridge, zeros elsewhere (R552). -/
def initialEram (battery : Bool) (eramBytes : Nat) (save : Option (List Byte)) : Mem :=
  match save with
  | none => []
  | some blob => if battery then Mem.ofBytes 0 (blob.take eramBytes) else []

/-- The I/O bytes that reset fixes, each written straight to storage (R551). -/
def resetTable : List Host.Cell :=
  [(0xFF00, 0xFF), (0xFF01, 0x00), (0xFF02, 0x7E), (0xFF05, 0x00), (0xFF06, 0x00), (0xFF07, 0xF8), (0xFF0F, 0xE1),
   (0xFF10, 0x80), (0xFF11, 0xBF), (0xFF12, 0xF3), (0xFF13, 0xFF), (0xFF14, 0xBF), (0xFF16, 0x3F), (0xFF17, 0x00),
   (0xFF18, 0xFF), (0xFF19, 0xBF), (0xFF1A, 0x7F), (0xFF1B, 0xFF), (0xFF1C, 0x9F), (0xFF1D, 0xFF), (0xFF1E, 0xBF)] ++
  [(0xFF20, 0xFF), (0xFF21, 0x00), (0xFF22, 0x00), (0xFF23, 0xBF), (0xFF24, 0x77), (0xFF25, 0xF3), (0xFF26, 0xF1),
   (0xFF40, 0x91), (0xFF41, 0x80), (0xFF42, 0x00), (0xFF43, 0x00), (0xFF45, 0x00), (0xFF46, 0xFF), (0xFF47, 0xFC),
   (0xFF4A, 0x00), (0xFF4B, 0x00), (0xFF4F, 0x00), (0xFF68, 0x00), (0xFF6A, 0x00), (0xFF70, 0x00), (0xFFFF, 0x00)]

/-- `M` after reset: `P_INIT_MEM`, then the bytes R551 fixes (R550 items 1 and 2). -/
def resetM (initM : List Host.Cell) : Mem :=
  resetTable.foldl (fun m c => Mem.set m c.1 c.2) (Mem.ofCells 0x10000 initM)

/-- The profile of an image whose type and RAM size are supported (R76, R112, R113). -/
def cartridgeOf (rom : List Byte) (mapper : Mapper) (ramBytes : Nat) : Cartridge :=
  let t := rom.getD 0x0147 0
  { cartType := t
    ramSize := rom.getD 0x0149 0
    cgbFlag := rom.getD 0x0143 0
    mapper := mapper
    eramBytes := if hasRam t then ramBytes else 0
    colorMode := isColor (rom.getD 0x0143 0)
    romLen := rom.length }

/-- The reset machine of a launch and a profile (R550). -/
def resetMachine (p : LaunchParams) (rom : List Byte) (cart : Cartridge) : State :=
  { cpu := if cart.colorMode then Cpu.resetColor else Cpu.resetMono
    mem :=
      { m := resetM p.initM
        vram1 := Mem.ofCells 0x2000 p.initVram1
        wramx := Mem.ofCells 0x8000 p.initWramx
        eram := initialEram (hasBattery cart.cartType) cart.eramBytes p.saveRam
        rom := Mem.ofBytes 0 rom
        bgpal := Mem.ofCells 64 p.initBgpal
        objpal := Mem.ofCells 64 p.initObjpal }
    cart := cart
    mbc := Mbc1.reset
    divider := 0
    ppu := Ppu.reset
    apu := Apu.reset
    pressed := 0
    fault := none
    cycles := 0
    launch := { input := p.input, quit := false, sampleRate := p.sampleRate, batchSize := p.batchSize }
    out := { frame := none, audio := [] } }

/-- The load (R553): no machine for a missing or short image, nor for a type or size outside R112. -/
def load (p : LaunchParams) : Result :=
  match p.rom with
  | none => .refused .fatalLoadError
  | some rom =>
    if rom.length < 0x150 then .refused .fatalLoadError
    else
      match mapperOf (rom.getD 0x0147 0), ramBytesOf (rom.getD 0x0149 0) with
      | none, _ => .refused (.unsupportedCartridgeType (rom.getD 0x0147 0))
      | some _, none => .refused (.unsupportedRamSize (rom.getD 0x0149 0))
      | some mapper, some ramBytes => .next (resetMachine p rom (cartridgeOf rom mapper ramBytes))

end Sys2Proof.Machine
end

