-- ==== Sys2Proof/Machine/Run.lean ====
section
/-! DEFINITION. The end of a run (60_exceptions.md rule R445): the machine never stops by itself, so the launch's `P_END`
says after which system step the run ends. -/

namespace Sys2Proof.Machine

/-- `P_END` (R8): a number of completed system steps, a quit event, or both. -/
structure EndCondition where
  budget : Option Nat
  onQuit : Bool
  deriving DecidableEq, Repr

/-- The run ends after `done` completed steps in state `s` (R445). The spec lets a launch name both a budget and a quit
event and does not say whether either or both must hold: here the one that holds first ends the run. DESIGN CHOICE (log 15). -/
def EndCondition.holds (e : EndCondition) (done : Nat) (s : State) : Bool :=
  (match e.budget with
   | some n => decide (n ≤ done)
   | none => false) || (e.onQuit && s.launch.quit)

/-- How a run of a bounded number of steps came out. -/
inductive RunOutcome where
  /-- `P_END` held after this many completed steps; this is the end state. -/
  | ended (steps : Nat) (s : State)
  /-- The bound was used up first. -/
  | running (s : State)
  /-- The machine faulted: never an end state (R420, R445). -/
  | faulted (r : Fault)
  /-- A step was refused. -/
  | refused (r : Refusal)
  deriving Repr

/-- Runs until `P_END` holds, at most `bound` steps; `done` counts the completed steps. A faulted state is no end state (R445).
`P_END` is asked after each step: a quit event of a boundary ends the run after the step that follows the boundary, and a
budget of 0 still runs one step. The spec leaves both open: DESIGN CHOICE (log 16). -/
def runToEnd (e : EndCondition) (bound done : Nat) (s : State) : RunOutcome :=
  match bound with
  | 0 => .running s
  | k + 1 =>
    match step s with
    | .fault r => .faulted r
    | .refused r => .refused r
    | .next s1 => if e.holds (done + 1) s1 && s1.fault.isNone then .ended (done + 1) s1 else runToEnd e k (done + 1) s1

end Sys2Proof.Machine
end

