-- ==== Sys2Proof/Safety.lean ====
section
/-! DEFINITION. The words the claims are stated in: what a register-only instruction and a storing instruction leave
unchanged, which cells a bus write can change, what makes a state legal, and what a step may never change. -/

/-! ## Field codes: the numbers that the encodings of the instruction rules are written with -/

namespace Sys2Proof

/-- R173. -/
def Reg8.code (r : Reg8) : Nat :=
  match r with
  | .b => 0
  | .c => 1
  | .d => 2
  | .e => 3
  | .h => 4
  | .l => 5
  | .a => 7

/-- R175, table rp. -/
def Pair.code (p : Pair) : Nat :=
  match p with
  | .bc => 0
  | .de => 1
  | .hl => 2
  | .sp => 3

/-- R175, table rp2. -/
def StackPair.code (p : StackPair) : Nat :=
  match p with
  | .bc => 0
  | .de => 1
  | .hl => 2
  | .af => 3

/-- R176. -/
def Cond.code (cc : Cond) : Nat :=
  match cc with
  | .nz => 0
  | .z => 1
  | .nc => 2
  | .c => 3

/-- R177. -/
def AluOp.code (op : AluOp) : Nat :=
  match op with
  | .add => 0
  | .adc => 1
  | .sub => 2
  | .sbc => 3
  | .and => 4
  | .xor => 5
  | .or => 6
  | .cp => 7

/-- R179. -/
def RotOp.code (op : RotOp) : Nat :=
  match op with
  | .rlc => 0
  | .rrc => 1
  | .rl => 2
  | .rr => 3
  | .sla => 4
  | .sra => 5
  | .swap => 6
  | .srl => 7

end Sys2Proof

namespace Sys2Proof.Machine

/-! ## Flags and registers -/

/-- The flag byte `f` has exactly these four flags, and its low nibble is 0 (R33). -/
def FlagsAre (f : Byte) (z n h c : Prop) : Prop :=
  (bit f 7 = true ↔ z) ∧ (bit f 6 = true ↔ n) ∧ (bit f 5 = true ↔ h) ∧ (bit f 4 = true ↔ c) ∧ f.toNat % 16 = 0

/-- Carry before the instruction, as a number. -/
def State.carryIn (s : State) : Nat := (bit s.cpu.f 4).toNat

/-- Every 8-bit register but `dst` holds what it held. -/
def OthersKept (dst : Reg8) (s t : State) : Prop := ∀ r, r ≠ dst → t.reg r = s.reg r

/-- SP, PC, IME and the halted flag hold what they held. -/
def ControlKept (s t : State) : Prop :=
  t.cpu.sp = s.cpu.sp ∧ t.cpu.pc = s.cpu.pc ∧ t.cpu.ime = s.cpu.ime ∧ t.cpu.halted = s.cpu.halted

/-! ## Frames -/

/-- The frame of an instruction that stores nothing: `t` is `s` with the CPU registers `c` and the cost `n`, and every
address of the bus reads as before. -/
def RegistersOnly (s : State) (c : Cpu) (n : Nat) (t : State) : Prop :=
  t = { s with cpu := c, cycles := n } ∧ ∀ a, t.memRead a = s.memRead a

/-- The cells that a bus write at `addr` can change (R130): none for a bank register, DIV and LY, two for a palette port,
OAM and the register itself for a DMA, one elsewhere. -/
def State.writeCells (s : State) (addr : Word) : List (Store × Nat) :=
  let a := addr.toNat
  if a < 0x8000 then []
  else if a < 0xA000 then [s.vramCell a]
  else if a < 0xC000 then (if s.eramReaches a then [(.eram, s.eramOffset a)] else [])
  else if a < 0xD000 then [(.m, a)]
  else if a < 0xE000 then [(.wramx, s.wramIndex a)]
  else if a = 0xFF04 then []
  else if a = 0xFF44 then []
  else if a = 0xFF46 then (.m, a) :: (List.range 160).map (fun i => (Store.m, 0xFE00 + i))
  else if a = 0xFF69 then [(.bgpal, s.paletteIndex 0xFF68), (.m, 0xFF68)]
  else if a = 0xFF6B then [(.objpal, s.paletteIndex 0xFF6A), (.m, 0xFF6A)]
  else [(.m, a)]

/-- The address is backed by a byte of plain storage: RAM, VRAM, OAM, HRAM, IE, or external RAM that the banking reaches
now. A write there changes nothing else of the machine (R108). -/
def State.plainAt (s : State) (addr : Word) : Bool :=
  let a := addr.toNat
  decide (0x8000 ≤ a) && (decide (a < 0xA000) || decide (0xC000 ≤ a) || s.eramReaches a) &&
    (decide (a < 0xFF00) || decide (0xFF80 ≤ a))

/-- What a bus write at `addr` leaves alone: the CPU, the profile, the PPU, the host's side, every cell that is not in its
footprint, the bank registers unless the address is a control address, the divider unless it is DIV, and the APU unless
it is in the APU window. -/
structure WriteFrame (s : State) (addr : Word) (t : State) : Prop where
  cart : t.cart = s.cart
  ppu : t.ppu = s.ppu
  pressed : t.pressed = s.pressed
  fault : t.fault = s.fault
  launch : t.launch = s.launch
  out : t.out = s.out
  mbc : 0x8000 ≤ addr.toNat → t.mbc = s.mbc
  divider : addr.toNat ≠ 0xFF04 → t.divider = s.divider
  apu : (addr.toNat < 0xFF10 ∨ 0xFF26 < addr.toNat) → t.apu = s.apu
  cells : ∀ st o, (st, o) ∉ s.writeCells addr → t.mem.get st o = s.mem.get st o

/-- An instruction that stores the byte `v` at `addr`: it performs that bus write, its CPU registers become `c`, its cost
is `n`; nothing outside the write's footprint changes; and where the address is plain storage, it reads as `v` and every
other address reads as before. -/
def StoresByte (s : State) (addr : Word) (v : Byte) (c : Cpu) (n : Nat) (t : State) : Prop :=
  t = { s.memWrite addr v with cpu := c, cycles := n } ∧ WriteFrame s addr t ∧
    (s.plainAt addr = true → t.memRead addr = v ∧ ∀ a, a ≠ addr → t.memRead a = s.memRead a)

/-- An instruction that stores `v1` at `a1` and then `v2` at `a2`. Each write has its own footprint, the second in the
state the first leaves; where both addresses are plain storage, they read as the bytes stored and every other address
reads as before. -/
def StoresTwoBytes (s : State) (a1 : Word) (v1 : Byte) (a2 : Word) (v2 : Byte) (c : Cpu) (n : Nat) (t : State) : Prop :=
  t = { (s.memWrite a1 v1).memWrite a2 v2 with cpu := c, cycles := n } ∧
    WriteFrame s a1 (s.memWrite a1 v1) ∧ WriteFrame (s.memWrite a1 v1) a2 t ∧
    (a1 ≠ a2 → s.plainAt a1 = true → s.plainAt a2 = true →
      t.memRead a1 = v1 ∧ t.memRead a2 = v2 ∧ ∀ a, a ≠ a1 → a ≠ a2 → t.memRead a = s.memRead a)

/-! ## Pairs (R32, R175) -/

/-- The CPU registers with both halves of a pair of table rp written. -/
def Cpu.withPair (c : Cpu) (p : Pair) (v : Word) : Cpu :=
  match p with
  | .bc => { c with b := hiByte v, c := loByte v }
  | .de => { c with d := hiByte v, e := loByte v }
  | .hl => { c with h := hiByte v, l := loByte v }
  | .sp => { c with sp := v }

/-- The two bytes, high first, that PUSH writes for a pair of table rp2 (R234). -/
def Cpu.stackBytes (c : Cpu) (p : StackPair) : Byte × Byte :=
  match p with
  | .bc => (c.b, c.c)
  | .de => (c.d, c.e)
  | .hl => (c.h, c.l)
  | .af => (c.a, c.f)

/-- The CPU registers after POP has put the bytes `hi` and `lo` in a pair of table rp2: F takes the low byte with its low
nibble cleared (R235, R237). -/
def Cpu.withPopped (c : Cpu) (p : StackPair) (hi lo : Byte) : Cpu :=
  match p with
  | .bc => { c with b := hi, c := lo }
  | .de => { c with d := hi, e := lo }
  | .hl => { c with h := hi, l := lo }
  | .af => { c with a := hi, f := lo &&& 0xF0 }

/-! ## Operand forms of the ALU operations (R250) -/

/-- The three forms an ALU operation takes its operand in. -/
inductive AluForm where
  | reg (r : Reg8)
  | atHl
  | imm (n8 : Byte)
  deriving DecidableEq, Repr

/-- The instruction of an operation in a form. -/
def AluForm.instr (form : AluForm) (op : AluOp) : Instr :=
  match form with
  | .reg r => Instr.aluReg op r
  | .atHl => Instr.aluAtHl op
  | .imm n8 => Instr.aluN8 op n8

/-- The bytes of an operation in a form: `0b10yyyzzz`, `0b10yyy110`, and `0b11yyy110` with the immediate (R251 to R274). -/
def AluForm.bytes (form : AluForm) (op : AluOp) : List Byte :=
  match form with
  | .reg r => [BitVec.ofNat 8 (0x80 + 8 * op.code + r.code)]
  | .atHl => [BitVec.ofNat 8 (0x86 + 8 * op.code)]
  | .imm n8 => [BitVec.ofNat 8 (0xC6 + 8 * op.code), n8]

/-- The operand's value. -/
def AluForm.value (form : AluForm) (s : State) : Byte :=
  match form with
  | .reg r => s.reg r
  | .atHl => s.memRead s.hl
  | .imm n8 => n8

/-- The cycles of the form. -/
def AluForm.cost (form : AluForm) : Nat :=
  match form with
  | .reg _ => 4
  | .atHl => 8
  | .imm _ => 8

/-! ## Rotates and shifts -/

/-- Bit `i` of the result of a rotate or shift of `v`, `ci` being the carry before it (R315 to R329). -/
def rotatedBit (op : RotOp) (v : Byte) (ci : Bool) (i : Nat) : Bool :=
  match op with
  | .rlc => if i = 0 then bit v 7 else bit v (i - 1)
  | .rrc => if i = 7 then bit v 0 else bit v (i + 1)
  | .rl => if i = 0 then ci else bit v (i - 1)
  | .rr => if i = 7 then ci else bit v (i + 1)
  | .sla => if i = 0 then false else bit v (i - 1)
  | .sra => if i = 7 then bit v 7 else bit v (i + 1)
  | .swap => bit v ((i + 4) % 8)
  | .srl => if i = 7 then false else bit v (i + 1)

/-- The carry a rotate or shift leaves: the bit shifted out, and 0 for SWAP. -/
def rotatedCarry (op : RotOp) (v : Byte) : Bool :=
  match op with
  | .rlc => bit v 7
  | .rrc => bit v 0
  | .rl => bit v 7
  | .rr => bit v 0
  | .sla => bit v 7
  | .sra => bit v 0
  | .swap => false
  | .srl => bit v 0

/-- `w` is the rotated or shifted `v`: every bit is where the operation puts it. -/
def Rotated (op : RotOp) (v : Byte) (ci : Bool) (w : Byte) : Prop :=
  ∀ i, i < 8 → bit w i = rotatedBit op v ci i

/-! ## Legal states -/

/-- The mode that dot and line fix (R450). -/
def PpuMode.at (dot ly : Nat) : PpuMode :=
  if 144 ≤ ly then .vBlank else if dot < 80 then .oamScan else if dot < 252 then .drawing else .hBlank

/-- The PPU is at a place of the frame, in the mode of that place. -/
structure Ppu.Legal (p : Ppu) : Prop where
  dot : p.dot < 456
  ly : p.ly < 154
  mode : p.mode = PpuMode.at p.dot p.ly

/-- The launch parameters of a running machine satisfy R8. -/
structure Launch.Legal (l : Launch) : Prop where
  ratePos : 0 < l.sampleRate
  rateMax : l.sampleRate ≤ 4194304
  batch : 1 ≤ l.batchSize

/-- The invariant of the machine: memory in canonical form, F's low nibble 0 (R33), BANKLO never 0 (R75), the stored
STAT bits 2-0 zero (R62), the PPU at a legal place (R450), the accumulator and the pending batch in their ranges (R79,
R507), and launch parameters that R8 allows. -/
structure State.Inv (s : State) : Prop where
  memory : s.mem.wf = true
  flagNibble : s.cpu.f.toNat % 16 = 0
  bankLo : s.mbc.bankLo ≠ 0
  stat : (s.io 0xFF41).toNat % 8 = 0
  ppu : s.ppu.Legal
  acc : s.apu.acc < 4194304
  batch : s.apu.batch.length < s.launch.batchSize
  launch : s.launch.Legal

/-- The samples a run has produced so far: those of the batches handed over and those of the pending batch (R507). -/
def State.samples (s : State) : Nat := (s.out.audio.map List.length).sum + s.apu.batch.length

/-- What is fixed for the session: the profile and the image (R76, R113), and the audio parameters (R8, held as log 4 says). -/
structure SessionKept (s t : State) : Prop where
  cart : t.cart = s.cart
  rom : ∀ o, t.mem.get .rom o = s.mem.get .rom o
  sampleRate : t.launch.sampleRate = s.launch.sampleRate
  batchSize : t.launch.batchSize = s.launch.batchSize

/-- The address of dot `dot` of line `ly` in the frame of 70,224 cycles (R450). -/
def Ppu.place (p : Ppu) : Nat := p.ly * 456 + p.dot

/-- One tick takes the PPU from line 143 to line 144 (R452). -/
def Ppu.entersVBlank (p : Ppu) : Prop := p.ly = 143 ∧ p.dot = 455

/-- The STAT enable bit of the mode that one tick enters, if it enters a mode that has one (R453). -/
def Ppu.entersEnableBit (p : Ppu) (k : Nat) : Prop :=
  (k = 3 ∧ p.ly < 144 ∧ p.dot = 251) ∨ (k = 4 ∧ p.ly = 143 ∧ p.dot = 455) ∨
  (k = 5 ∧ p.dot = 455 ∧ (p.ly < 143 ∨ p.ly = 153))

/-- The bytes of `i` stand at PC. -/
def State.holdsAtPc (s : State) (i : Instr) : Prop :=
  ∀ k, k < (encode i).length → s.memRead (s.cpu.pc + BitVec.ofNat 16 k) = (encode i).getD k 0

/-- The step's CPU part runs an instruction: no fault, and not halted once this boundary's events are applied. -/
def State.runs (s : State) : Prop := s.fault = none ∧ s.atBoundary.cpu.halted = false

/-- The instructions whose rules list a changed flag (R38): every other one leaves F alone. -/
def WritesFlags (i : Instr) : Prop :=
  (∃ op r, i = Instr.aluReg op r) ∨ (∃ op, i = Instr.aluAtHl op) ∨ (∃ op n8, i = Instr.aluN8 op n8) ∨
  (∃ r, i = Instr.incReg r) ∨ (∃ r, i = Instr.decReg r) ∨ i = .incAtHl ∨ i = .decAtHl ∨
  i = .daa ∨ i = .cpl ∨ i = .scf ∨ i = .ccf ∨ i = .rlca ∨ i = .rrca ∨ i = .rla ∨ i = .rra ∨
  (∃ p, i = Instr.addHlPair p) ∨ (∃ e8, i = .addSpE8 e8) ∨ (∃ e8, i = .ldHlSpE8 e8) ∨ i = .popAf ∨
  (∃ op r, i = Instr.rotReg op r) ∨ (∃ op, i = Instr.rotAtHl op) ∨
  (∃ b r, i = Instr.bitReg b r) ∨ (∃ b, i = Instr.bitAtHl b)

end Sys2Proof.Machine
end

