-- ==== Sys2Proof/Certificates/Slice0/Obligations.lean ====
section
/-! DEFINITION. The statements for the provers. Each docstring names the rules of spec/ that the statement formalises, or
says that it is derived. A statement of an instruction's rule says its encoding (`encode`), its effect with all that it
leaves unchanged, its flags and its cycles. -/

open Sys2Proof Sys2Proof.Machine

/-! ## Encoding -/

/-- Words written out by hand from the encodings of the rules decode to the instructions they stand for: at least one per
family (R180, R181). -/
def Obligations.WrittenWordsDecode : Prop :=
  decode [0x78] = .ok (.ldAB, []) ∧
  decode [0x0E, 0x5A] = .ok (.ldCN8 0x5A, []) ∧
  decode [0xFA, 0x45, 0xC3] = .ok (.ldAAtA16 0xC345, []) ∧
  decode [0x21, 0x00, 0xC0] = .ok (.ldHlN16 0xC000, []) ∧
  decode [0xF1] = .ok (.popAf, []) ∧
  decode [0x88] = .ok (.adcAB, []) ∧
  decode [0xDE, 0x3A] = .ok (.sbcAN8 0x3A, []) ∧
  decode [0x35] = .ok (.decAtHl, []) ∧
  decode [0x39] = .ok (.addHlSp, []) ∧
  decode [0xE8, 0x08] = .ok (.addSpE8 0x08, []) ∧
  decode [0x1F] = .ok (.rra, []) ∧
  decode [0xCB, 0x11] = .ok (.rlC, []) ∧
  decode [0xCB, 0x7C] = .ok (.bit7H, []) ∧
  decode [0xCB, 0x86] = .ok (.res0AtHl, []) ∧
  decode [0xCB, 0xD8] = .ok (.set3B, []) ∧
  decode [0xC2, 0x00, 0x02] = .ok (.jpNzA16 0x0200, []) ∧
  decode [0x30, 0x10] = .ok (.jrNcE8 0x10, []) ∧
  decode [0xCD, 0x34, 0x12] = .ok (.callA16 0x1234, []) ∧
  decode [0xCF] = .ok (.rst08, []) ∧
  decode [0x10, 0x00] = .ok (.stop 0x00, []) ∧
  decode [0x76] = .ok (.halt, []) ∧
  decode [0xD3] = .ok (.illegal 0xD3, [])

/-- Decoding the encoding of any well-formed instruction, whatever bytes follow it, gives the instruction with every
operand and leaves the bytes that follow: the field decoder (R172 to R179) and the table encoder (R180, R181) agree. -/
def Obligations.DecodeOfEncode : Prop :=
  ∀ (i : Instr) (rest : List Byte), i.wf = true → decode (encode i ++ rest) = .ok (i, rest)

/-- Whatever the decoder reads is well formed and is encoded by exactly the bytes that were consumed: no bit of an
instruction is dropped, and no two words mean the same. -/
def Obligations.EncodeOfDecode : Prop :=
  ∀ (bytes rest : List Byte) (i : Instr), decode bytes = .ok (i, rest) → i.wf = true ∧ encode i ++ rest = bytes

/-- R182, R183: exactly the eleven listed bytes decode as illegal, whatever follows, and each as itself. -/
def Obligations.IllegalBytesAreEleven : Prop :=
  ∀ op b1 b2 : Byte,
    ((∃ o, decodeOp op b1 b2 = .illegal o) ↔
      op ∈ ([0xD3, 0xDB, 0xDD, 0xE3, 0xE4, 0xEB, 0xEC, 0xED, 0xF4, 0xFC, 0xFD] : List Byte)) ∧
    (∀ o, decodeOp op b1 b2 = .illegal o → o = op)

/-! ## The system step -/

/-- R171, R400: when the bytes at PC are those of a well-formed instruction `i`, the step is `exec i` with PC moved past
them, then (unless the instruction recorded a fault, which ends the step) the IME promotion, the three device advances over
the instruction's cycles, and interrupt service. The step starts from the state that the host's events of this boundary
leave (log 6), and a step that records a fault answers a next state (log 8). -/
def Obligations.StepRunsDecodedInstruction : Prop :=
  ∀ (s b : State) (i : Instr), b = s.atBoundary → s.runs → i.wf = true → b.holdsAtPc i →
    step s =
      match exec i (b.setPc (b.cpu.pc + BitVec.ofNat 16 (encode i).length)) with
      | .next t =>
        if t.fault.isSome then .next t
        else
          let u := if b.cpu.ime = .pending ∧ t.cpu.ime = .pending then t.setIme .enabled else t
          .next (((u.timerAdvance u.cycles).ppuAdvance u.cycles).apuAdvance u.cycles).service
      | .fault r => .fault r
      | .refused r => .refused r

/-- R401: a halted step fetches and executes nothing, changes no register, and advances the devices by 4 cycles; then
service runs. R373: with no source enabled it changes no register at all, so the machine stays halted. -/
def Obligations.HaltedStepSkips : Prop :=
  ∀ s b : State, b = s.atBoundary → s.fault = none → b.cpu.halted = true →
    ∃ d : State, d = (((b.charge 4).timerAdvance 4).ppuAdvance 4).apuAdvance 4 ∧ d.cpu = b.cpu ∧ step s = .next d.service ∧
      (b.io 0xFFFF &&& 0x1F = 0 → step s = .next d)

/-- R84, R420: a machine whose fault record is set takes no step; the step answers the fault with the record. -/
def Obligations.FaultedMachineTakesNoStep : Prop :=
  ∀ (s : State) (r : FaultRecord), s.fault = some r → step s = .fault (.unknownOpcode r.op r.addr)

/-- R420, R415, R568: fetching an illegal byte ends the step with the record set to the byte and its own address, PC one past
it, no cycle charged, and nothing else changed; the meaning of the illegal instruction is that state; and the next step
answers the fault. -/
def Obligations.IllegalFetchFaults : Prop :=
  (∀ (op : Byte) (s : State),
    exec (.illegal op) s = .next { s with fault := some { op := op, addr := s.cpu.pc - 1 }, cycles := 0 }) ∧
  (∀ s b t : State, b = s.atBoundary → s.runs → b.memRead b.cpu.pc ∈ illegalOpcodes →
    t = { b with
      cpu := { b.cpu with pc := b.cpu.pc + 1 }
      fault := some { op := b.memRead b.cpu.pc, addr := b.cpu.pc }
      cycles := 0 } →
    step s = .next t ∧ step t = .fault (.unknownOpcode (b.memRead b.cpu.pc) b.cpu.pc))

/-- Derived from R13, R101, R420 and R422: the step is total, and the only cause of a fault record is the fetch of an illegal
byte. R13 lists UnknownOpcode as a fault, not as a next state: that the step which fetches the illegal byte answers a next
state too, with the record set, and the step after it the fault, is the model's choice (log 8). -/
def Obligations.StepIsTotal : Prop :=
  ∀ s : State, s.fault = none →
    ∃ t, step s = .next t ∧
      (t.fault ≠ none ↔ s.runs ∧ s.atBoundary.memRead s.atBoundary.cpu.pc ∈ illegalOpcodes)

/-- R171: every instruction completes, and its cost is a whole number of 4-cycle units from 4 to 24; an illegal byte has none. -/
def Obligations.InstructionsCompleteInFourToTwentyFour : Prop :=
  ∀ (i : Instr) (s : State), (∀ op, i ≠ .illegal op) →
    ∃ t, exec i s = .next t ∧ 4 ≤ t.cycles ∧ t.cycles ≤ 24 ∧ t.cycles % 4 = 0 ∧ t.fault = s.fault

/-! ## Loads -/

/-- R200, R201, R202: the destination register takes the source register, the immediate, or the byte at HL (HL as it was
before); every other register, the flags, SP, PC, IME, memory and the rest of the machine are unchanged. -/
def Obligations.RegisterLoads : Prop :=
  ∀ (dst r : Reg8) (n8 : Byte) (s : State),
    (encode (Instr.ldRegReg dst r) = [BitVec.ofNat 8 (0x40 + 8 * dst.code + r.code)] ∧
      ∃ t, exec (Instr.ldRegReg dst r) s = .next t ∧ RegistersOnly s t.cpu 4 t ∧ t.reg dst = s.reg r ∧
      OthersKept dst s t ∧ t.cpu.f = s.cpu.f ∧ ControlKept s t) ∧
    (encode (Instr.ldRegN8 dst n8) = [BitVec.ofNat 8 (0x06 + 8 * dst.code), n8] ∧
      ∃ t, exec (Instr.ldRegN8 dst n8) s = .next t ∧ RegistersOnly s t.cpu 8 t ∧ t.reg dst = n8 ∧
      OthersKept dst s t ∧ t.cpu.f = s.cpu.f ∧ ControlKept s t) ∧
    (encode (Instr.ldRegAtHl dst) = [BitVec.ofNat 8 (0x46 + 8 * dst.code)] ∧
      ∃ t, exec (Instr.ldRegAtHl dst) s = .next t ∧ RegistersOnly s t.cpu 8 t ∧
      t.reg dst = s.memRead (joinBytes s.cpu.h s.cpu.l) ∧ OthersKept dst s t ∧ t.cpu.f = s.cpu.f ∧ ControlKept s t)

/-- R205, R206, R209, R211, R213, R215, R216: A takes the byte at the address the form names; the two forms on HL then move
HL by one, modulo 2^16; nothing else changes. -/
def Obligations.AccumulatorLoads : Prop :=
  ∀ (a16 : Word) (a8 : Byte) (s : State),
    (encode .ldAAtBc = [0x0A] ∧
      ∃ t, exec .ldAAtBc s = .next t ∧ RegistersOnly s { s.cpu with a := s.memRead (joinBytes s.cpu.b s.cpu.c) } 8 t) ∧
    (encode .ldAAtDe = [0x1A] ∧
      ∃ t, exec .ldAAtDe s = .next t ∧ RegistersOnly s { s.cpu with a := s.memRead (joinBytes s.cpu.d s.cpu.e) } 8 t) ∧
    (encode (.ldAAtA16 a16) = [0xFA, loByte a16, hiByte a16] ∧
      ∃ t, exec (.ldAAtA16 a16) s = .next t ∧ RegistersOnly s { s.cpu with a := s.memRead a16 } 16 t) ∧
    (encode (.ldhAAtA8 a8) = [0xF0, a8] ∧ ∃ t, exec (.ldhAAtA8 a8) s = .next t ∧
      RegistersOnly s { s.cpu with a := s.memRead (BitVec.ofNat 16 (0xFF00 + a8.toNat)) } 12 t) ∧
    (encode .ldAAtC = [0xF2] ∧ ∃ t, exec .ldAAtC s = .next t ∧
      RegistersOnly s { s.cpu with a := s.memRead (BitVec.ofNat 16 (0xFF00 + s.cpu.c.toNat)) } 8 t) ∧
    (encode .ldAAtHlInc = [0x2A] ∧
      ∃ t hl, exec .ldAAtHlInc s = .next t ∧ hl.toNat = (s.cpu.h.toNat * 256 + s.cpu.l.toNat + 1) % 65536 ∧
      RegistersOnly s
        { s.cpu with a := s.memRead (joinBytes s.cpu.h s.cpu.l), h := hiByte hl, l := loByte hl } 8 t) ∧
    (encode .ldAAtHlDec = [0x3A] ∧
      ∃ t hl, exec .ldAAtHlDec s = .next t ∧ hl.toNat = (s.cpu.h.toNat * 256 + s.cpu.l.toNat + 65535) % 65536 ∧
      RegistersOnly s
        { s.cpu with a := s.memRead (joinBytes s.cpu.h s.cpu.l), h := hiByte hl, l := loByte hl } 8 t)

/-- R203, R204, R207, R208, R210, R212, R214, R217, R218: the byte is stored at the address the form names (the HL from
before it moves); no flag changes; of the registers only HL, and only in the two moving forms. -/
def Obligations.ByteStores : Prop :=
  ∀ (r : Reg8) (n8 a8 : Byte) (a16 : Word) (s : State),
    (encode (Instr.ldAtHlReg r) = [BitVec.ofNat 8 (0x70 + r.code)] ∧
      ∃ t, exec (Instr.ldAtHlReg r) s = .next t ∧ StoresByte s (joinBytes s.cpu.h s.cpu.l) (s.reg r) s.cpu 8 t) ∧
    (encode (.ldAtHlN8 n8) = [0x36, n8] ∧
      ∃ t, exec (.ldAtHlN8 n8) s = .next t ∧ StoresByte s (joinBytes s.cpu.h s.cpu.l) n8 s.cpu 12 t) ∧
    (encode .ldAtBcA = [0x02] ∧
      ∃ t, exec .ldAtBcA s = .next t ∧ StoresByte s (joinBytes s.cpu.b s.cpu.c) s.cpu.a s.cpu 8 t) ∧
    (encode .ldAtDeA = [0x12] ∧
      ∃ t, exec .ldAtDeA s = .next t ∧ StoresByte s (joinBytes s.cpu.d s.cpu.e) s.cpu.a s.cpu 8 t) ∧
    (encode (.ldAtA16A a16) = [0xEA, loByte a16, hiByte a16] ∧
      ∃ t, exec (.ldAtA16A a16) s = .next t ∧ StoresByte s a16 s.cpu.a s.cpu 16 t) ∧
    (encode (.ldhAtA8A a8) = [0xE0, a8] ∧
      ∃ t, exec (.ldhAtA8A a8) s = .next t ∧ StoresByte s (BitVec.ofNat 16 (0xFF00 + a8.toNat)) s.cpu.a s.cpu 12 t) ∧
    (encode .ldAtCA = [0xE2] ∧ ∃ t, exec .ldAtCA s = .next t ∧
      StoresByte s (BitVec.ofNat 16 (0xFF00 + s.cpu.c.toNat)) s.cpu.a s.cpu 8 t) ∧
    (encode .ldAtHlIncA = [0x22] ∧
      ∃ t hl, exec .ldAtHlIncA s = .next t ∧ hl.toNat = (s.cpu.h.toNat * 256 + s.cpu.l.toNat + 1) % 65536 ∧
      StoresByte s (joinBytes s.cpu.h s.cpu.l) s.cpu.a { s.cpu with h := hiByte hl, l := loByte hl } 8 t) ∧
    (encode .ldAtHlDecA = [0x32] ∧
      ∃ t hl, exec .ldAtHlDecA s = .next t ∧ hl.toNat = (s.cpu.h.toNat * 256 + s.cpu.l.toNat + 65535) % 65536 ∧
      StoresByte s (joinBytes s.cpu.h s.cpu.l) s.cpu.a { s.cpu with h := hiByte hl, l := loByte hl } 8 t)

/-- R230, R232: both halves of the pair, or SP, take the immediate; SP takes HL; nothing else changes. -/
def Obligations.PairLoads : Prop :=
  ∀ (p : Pair) (n16 : Word) (s : State),
    (encode (Instr.ldPairN16 p n16) = [BitVec.ofNat 8 (0x01 + 16 * p.code), loByte n16, hiByte n16] ∧
      ∃ t, exec (Instr.ldPairN16 p n16) s = .next t ∧ RegistersOnly s (s.cpu.withPair p n16) 12 t) ∧
    (encode .ldSpHl = [0xF9] ∧
      ∃ t, exec .ldSpHl s = .next t ∧ RegistersOnly s { s.cpu with sp := joinBytes s.cpu.h s.cpu.l } 8 t)

/-- R231, R104: SP is stored low byte first, at the address and the next one modulo 2^16. -/
def Obligations.StackPointerStore : Prop :=
  ∀ (a16 : Word) (s : State),
    encode (.ldAtA16Sp a16) = [0x08, loByte a16, hiByte a16] ∧ ∃ t, exec (.ldAtA16Sp a16) s = .next t ∧
      StoresTwoBytes s a16 (loByte s.cpu.sp) (a16 + 1) (hiByte s.cpu.sp) s.cpu 20 t

/-- R233, R293: SP plus the signed displacement, modulo 2^16, into HL or SP; Z and N are 0, H and C are the carries of the
unsigned addition of SP's low byte and the displacement byte. -/
def Obligations.StackPointerPlusSigned : Prop :=
  ∀ (e8 : Byte) (s : State), ∃ res : Word, ((res.toNat : Int) = ((s.cpu.sp.toNat : Int) + e8.toInt) % 65536) ∧
    (encode (.ldHlSpE8 e8) = [0xF8, e8] ∧ ∃ t, exec (.ldHlSpE8 e8) s = .next t ∧
      RegistersOnly s { s.cpu with h := hiByte res, l := loByte res, f := t.cpu.f } 12 t ∧
      FlagsAre t.cpu.f False False (s.cpu.sp.toNat % 16 + e8.toNat % 16 > 0x0F)
        (s.cpu.sp.toNat % 256 + e8.toNat > 0xFF)) ∧
    (encode (.addSpE8 e8) = [0xE8, e8] ∧
      ∃ t, exec (.addSpE8 e8) s = .next t ∧ RegistersOnly s { s.cpu with sp := res, f := t.cpu.f } 16 t ∧
      FlagsAre t.cpu.f False False (s.cpu.sp.toNat % 16 + e8.toNat % 16 > 0x0F)
        (s.cpu.sp.toNat % 256 + e8.toNat > 0xFF))

/-! ## The stack -/

/-- R234, R236: PUSH stores the high byte at SP - 1, then the low byte at SP - 2, both modulo 2^16, and leaves SP there; no
other register and no flag changes. -/
def Obligations.PushStoresHighByteFirst : Prop :=
  ∀ (p : StackPair) (s : State),
    encode (Instr.push p) = [BitVec.ofNat 8 (0xC5 + 16 * p.code)] ∧ ∃ t, exec (Instr.push p) s = .next t ∧
      StoresTwoBytes s (s.cpu.sp - 1) (s.cpu.stackBytes p).1 (s.cpu.sp - 2) (s.cpu.stackBytes p).2
        { s.cpu with sp := s.cpu.sp - 2 } 16 t

/-- R235, R236, R237: POP takes the low byte at SP and the high byte at SP + 1, and SP moves up by two, all modulo 2^16;
F keeps its low nibble 0; nothing else changes. -/
def Obligations.PopTakesLowByteFirst : Prop :=
  ∀ (p : StackPair) (s : State),
    encode (Instr.pop p) = [BitVec.ofNat 8 (0xC1 + 16 * p.code)] ∧ ∃ t, exec (Instr.pop p) s = .next t ∧
      RegistersOnly s
        ({ s.cpu with sp := s.cpu.sp + 2 }.withPopped p (s.memRead (s.cpu.sp + 1)) (s.memRead s.cpu.sp)) 12 t

/-- Derived from R234 to R237: where the two stack bytes are plain storage, POP of any pair right after PUSH of any pair
restores SP and gives the pushed bytes, with F's low nibble cleared. -/
def Obligations.PushThenPopRestores : Prop :=
  ∀ (p q : StackPair) (s : State), s.plainAt (s.cpu.sp - 1) = true → s.plainAt (s.cpu.sp - 2) = true →
    ∃ t u, exec (Instr.push p) s = .next t ∧ exec (Instr.pop q) t = .next u ∧ u.cpu.sp = s.cpu.sp ∧
      u.cpu.stackBytes q =
        ((s.cpu.stackBytes p).1,
          if q = .af then (s.cpu.stackBytes p).2 &&& 0xF0 else (s.cpu.stackBytes p).2)

/-! ## 8-bit arithmetic and logic -/

/-- R251 to R256: ADD and ADC in all three forms. -/
def Obligations.AddWithAndWithoutCarry : Prop :=
  ∀ (form : AluForm) (s : State),
    (encode (form.instr .add) = form.bytes .add ∧ ∃ t, exec (form.instr .add) s = .next t ∧
      RegistersOnly s
        { s.cpu with a := BitVec.ofNat 8 (s.cpu.a.toNat + (form.value s).toNat), f := t.cpu.f } form.cost t ∧
      FlagsAre t.cpu.f ((s.cpu.a.toNat + (form.value s).toNat) % 256 = 0) False
        (s.cpu.a.toNat % 16 + (form.value s).toNat % 16 > 0x0F) (s.cpu.a.toNat + (form.value s).toNat > 0xFF)) ∧
    (encode (form.instr .adc) = form.bytes .adc ∧ ∃ t, exec (form.instr .adc) s = .next t ∧
      RegistersOnly s
        { s.cpu with a := BitVec.ofNat 8 (s.cpu.a.toNat + (form.value s).toNat + s.carryIn), f := t.cpu.f }
        form.cost t ∧
      FlagsAre t.cpu.f ((s.cpu.a.toNat + (form.value s).toNat + s.carryIn) % 256 = 0) False
        (s.cpu.a.toNat % 16 + (form.value s).toNat % 16 + s.carryIn > 0x0F)
        (s.cpu.a.toNat + (form.value s).toNat + s.carryIn > 0xFF))

/-- R257 to R262: SUB and SBC in all three forms; the result is the integer difference modulo 256. -/
def Obligations.SubtractWithAndWithoutBorrow : Prop :=
  ∀ (form : AluForm) (s : State),
    (encode (form.instr .sub) = form.bytes .sub ∧ ∃ t a, exec (form.instr .sub) s = .next t ∧
      (a.toNat : Int) = ((s.cpu.a.toNat : Int) - (form.value s).toNat) % 256 ∧
      RegistersOnly s { s.cpu with a := a, f := t.cpu.f } form.cost t ∧
      FlagsAre t.cpu.f (a = 0) True (s.cpu.a.toNat % 16 < (form.value s).toNat % 16)
        (s.cpu.a.toNat < (form.value s).toNat)) ∧
    (encode (form.instr .sbc) = form.bytes .sbc ∧ ∃ t a, exec (form.instr .sbc) s = .next t ∧
      (a.toNat : Int) = ((s.cpu.a.toNat : Int) - (form.value s).toNat - s.carryIn) % 256 ∧
      RegistersOnly s { s.cpu with a := a, f := t.cpu.f } form.cost t ∧
      FlagsAre t.cpu.f (a = 0) True (s.cpu.a.toNat % 16 < (form.value s).toNat % 16 + s.carryIn)
        (s.cpu.a.toNat < (form.value s).toNat + s.carryIn))

/-- R263 to R271: AND, XOR and OR in all three forms, bit by bit; Z from the result, N and C cleared, H set by AND alone. -/
def Obligations.BitwiseLogic : Prop :=
  ∀ (form : AluForm) (s : State),
    (encode (form.instr .and) = form.bytes .and ∧ ∃ t a, exec (form.instr .and) s = .next t ∧
      (∀ i, i < 8 → bit a i = (bit s.cpu.a i && bit (form.value s) i)) ∧
      RegistersOnly s { s.cpu with a := a, f := t.cpu.f } form.cost t ∧ FlagsAre t.cpu.f (a = 0) False True False) ∧
    (encode (form.instr .xor) = form.bytes .xor ∧ ∃ t a, exec (form.instr .xor) s = .next t ∧
      (∀ i, i < 8 → bit a i = (bit s.cpu.a i != bit (form.value s) i)) ∧
      RegistersOnly s { s.cpu with a := a, f := t.cpu.f } form.cost t ∧ FlagsAre t.cpu.f (a = 0) False False False) ∧
    (encode (form.instr .or) = form.bytes .or ∧ ∃ t a, exec (form.instr .or) s = .next t ∧
      (∀ i, i < 8 → bit a i = (bit s.cpu.a i || bit (form.value s) i)) ∧
      RegistersOnly s { s.cpu with a := a, f := t.cpu.f } form.cost t ∧ FlagsAre t.cpu.f (a = 0) False False False)

/-- R272 to R274: CP changes only the flags: Z exactly when A equals the operand, C exactly when A is below it. -/
def Obligations.CompareSetsOnlyFlags : Prop :=
  ∀ (form : AluForm) (s : State),
    encode (form.instr .cp) = form.bytes .cp ∧
      ∃ t, exec (form.instr .cp) s = .next t ∧ RegistersOnly s { s.cpu with f := t.cpu.f } form.cost t ∧
      FlagsAre t.cpu.f (s.cpu.a = form.value s) True (s.cpu.a.toNat % 16 < (form.value s).toNat % 16)
        (s.cpu.a.toNat < (form.value s).toNat)

/-- R275, R277: INC r and DEC r, modulo 256; C is kept. -/
def Obligations.IncDecRegister : Prop :=
  ∀ (r : Reg8) (s : State),
    (encode (Instr.incReg r) = [BitVec.ofNat 8 (0x04 + 8 * r.code)] ∧
      ∃ t, exec (Instr.incReg r) s = .next t ∧ RegistersOnly s t.cpu 4 t ∧
      (t.reg r).toNat = ((s.reg r).toNat + 1) % 256 ∧ OthersKept r s t ∧ ControlKept s t ∧
      FlagsAre t.cpu.f ((s.reg r).toNat = 0xFF) False ((s.reg r).toNat % 16 = 0x0F) (bit s.cpu.f 4 = true)) ∧
    (encode (Instr.decReg r) = [BitVec.ofNat 8 (0x05 + 8 * r.code)] ∧
      ∃ t, exec (Instr.decReg r) s = .next t ∧ RegistersOnly s t.cpu 4 t ∧
      (t.reg r).toNat = ((s.reg r).toNat + 255) % 256 ∧ OthersKept r s t ∧ ControlKept s t ∧
      FlagsAre t.cpu.f ((s.reg r).toNat = 1) True ((s.reg r).toNat % 16 = 0) (bit s.cpu.f 4 = true))

/-- R276, R278: INC (HL) and DEC (HL) read the byte, then write it back through the bus; the flags come from the byte read. -/
def Obligations.IncDecMemory : Prop :=
  ∀ (s : State) (v : Byte), v = s.memRead (joinBytes s.cpu.h s.cpu.l) →
    (encode .incAtHl = [0x34] ∧ ∃ t w, exec .incAtHl s = .next t ∧ w.toNat = (v.toNat + 1) % 256 ∧
      StoresByte s (joinBytes s.cpu.h s.cpu.l) w { s.cpu with f := t.cpu.f } 12 t ∧
      FlagsAre t.cpu.f (v.toNat = 0xFF) False (v.toNat % 16 = 0x0F) (bit s.cpu.f 4 = true)) ∧
    (encode .decAtHl = [0x35] ∧ ∃ t w, exec .decAtHl s = .next t ∧ w.toNat = (v.toNat + 255) % 256 ∧
      StoresByte s (joinBytes s.cpu.h s.cpu.l) w { s.cpu with f := t.cpu.f } 12 t ∧
      FlagsAre t.cpu.f (v.toNat = 1) True (v.toNat % 16 = 0) (bit s.cpu.f 4 = true))

/-- R279: DAA. With N = 0 both corrections are decided by the A from before, and C is set by the high one; with N = 1 they
are decided by C and H and C is kept. -/
def Obligations.DecimalAdjust : Prop :=
  ∀ s : State, encode .daa = [0x27] ∧
    ∃ t a, exec .daa s = .next t ∧ RegistersOnly s { s.cpu with a := a, f := t.cpu.f } 4 t ∧
    (bit s.cpu.f 6 = false →
      a.toNat = (s.cpu.a.toNat + (if bit s.cpu.f 4 = true ∨ s.cpu.a.toNat > 0x99 then 0x60 else 0) +
        (if bit s.cpu.f 5 = true ∨ s.cpu.a.toNat % 16 > 0x09 then 0x06 else 0)) % 256 ∧
      FlagsAre t.cpu.f (a = 0) False False (bit s.cpu.f 4 = true ∨ s.cpu.a.toNat > 0x99)) ∧
    (bit s.cpu.f 6 = true →
      (a.toNat : Int) = ((s.cpu.a.toNat : Int) - (if bit s.cpu.f 4 = true then 0x60 else 0) -
        (if bit s.cpu.f 5 = true then 0x06 else 0)) % 256 ∧
      FlagsAre t.cpu.f (a = 0) True False (bit s.cpu.f 4 = true))

/-- R280, R281, R282: CPL complements every bit of A and sets N and H; SCF sets and CCF complements C, clearing N and H; Z is
kept by all three. -/
def Obligations.ComplementAndCarry : Prop :=
  ∀ s : State,
    (encode .cpl = [0x2F] ∧ ∃ t a, exec .cpl s = .next t ∧ a.toNat = 255 - s.cpu.a.toNat ∧
      RegistersOnly s { s.cpu with a := a, f := t.cpu.f } 4 t ∧
      FlagsAre t.cpu.f (bit s.cpu.f 7 = true) True True (bit s.cpu.f 4 = true)) ∧
    (encode .scf = [0x37] ∧ ∃ t, exec .scf s = .next t ∧ RegistersOnly s { s.cpu with f := t.cpu.f } 4 t ∧
      FlagsAre t.cpu.f (bit s.cpu.f 7 = true) False False True) ∧
    (encode .ccf = [0x3F] ∧ ∃ t, exec .ccf s = .next t ∧ RegistersOnly s { s.cpu with f := t.cpu.f } 4 t ∧
      FlagsAre t.cpu.f (bit s.cpu.f 7 = true) False False (bit s.cpu.f 4 = false))

/-! ## 16-bit arithmetic -/

/-- R290: ADD HL,rr: the sum modulo 2^16, H out of bit 11, C out of bit 15, Z kept. -/
def Obligations.AddToHl : Prop :=
  ∀ (p : Pair) (s : State), encode (Instr.addHlPair p) = [BitVec.ofNat 8 (0x09 + 16 * p.code)] ∧
    ∃ t res, exec (Instr.addHlPair p) s = .next t ∧
    res.toNat = ((joinBytes s.cpu.h s.cpu.l).toNat + (s.pair p).toNat) % 65536 ∧
    RegistersOnly s { s.cpu with h := hiByte res, l := loByte res, f := t.cpu.f } 8 t ∧
    FlagsAre t.cpu.f (bit s.cpu.f 7 = true) False
      ((joinBytes s.cpu.h s.cpu.l).toNat % 4096 + (s.pair p).toNat % 4096 > 0x0FFF)
      ((joinBytes s.cpu.h s.cpu.l).toNat + (s.pair p).toNat > 0xFFFF)

/-- R291, R292: INC rr and DEC rr, modulo 2^16; no flag changes. -/
def Obligations.IncDecPair : Prop :=
  ∀ (p : Pair) (s : State),
    (encode (Instr.incPair p) = [BitVec.ofNat 8 (0x03 + 16 * p.code)] ∧
      ∃ t v, exec (Instr.incPair p) s = .next t ∧ v.toNat = ((s.pair p).toNat + 1) % 65536 ∧
      RegistersOnly s (s.cpu.withPair p v) 8 t) ∧
    (encode (Instr.decPair p) = [BitVec.ofNat 8 (0x0B + 16 * p.code)] ∧
      ∃ t v, exec (Instr.decPair p) s = .next t ∧ v.toNat = ((s.pair p).toNat + 65535) % 65536 ∧
      RegistersOnly s (s.cpu.withPair p v) 8 t)

/-! ## Rotates, shifts and bits -/

/-- R310 to R313: the accumulator rotates put every bit where the rule says; Z, N and H are 0, C is the bit shifted out. -/
def Obligations.AccumulatorRotates : Prop :=
  ∀ s : State,
    (encode .rlca = [0x07] ∧ ∃ t w, exec .rlca s = .next t ∧ Rotated .rlc s.cpu.a (bit s.cpu.f 4) w ∧
      RegistersOnly s { s.cpu with a := w, f := t.cpu.f } 4 t ∧
      FlagsAre t.cpu.f False False False (bit s.cpu.a 7 = true)) ∧
    (encode .rrca = [0x0F] ∧ ∃ t w, exec .rrca s = .next t ∧ Rotated .rrc s.cpu.a (bit s.cpu.f 4) w ∧
      RegistersOnly s { s.cpu with a := w, f := t.cpu.f } 4 t ∧
      FlagsAre t.cpu.f False False False (bit s.cpu.a 0 = true)) ∧
    (encode .rla = [0x17] ∧ ∃ t w, exec .rla s = .next t ∧ Rotated .rl s.cpu.a (bit s.cpu.f 4) w ∧
      RegistersOnly s { s.cpu with a := w, f := t.cpu.f } 4 t ∧
      FlagsAre t.cpu.f False False False (bit s.cpu.a 7 = true)) ∧
    (encode .rra = [0x1F] ∧ ∃ t w, exec .rra s = .next t ∧ Rotated .rr s.cpu.a (bit s.cpu.f 4) w ∧
      RegistersOnly s { s.cpu with a := w, f := t.cpu.f } 4 t ∧
      FlagsAre t.cpu.f False False False (bit s.cpu.a 0 = true))

/-- R315, R317, R319, R321, R323, R325, R327, R329: the register forms of the eight rotates and shifts. -/
def Obligations.RegisterRotates : Prop :=
  ∀ (op : RotOp) (r : Reg8) (s : State),
    encode (Instr.rotReg op r) = [0xCB, BitVec.ofNat 8 (8 * op.code + r.code)] ∧
      ∃ t, exec (Instr.rotReg op r) s = .next t ∧ RegistersOnly s t.cpu 8 t ∧
      Rotated op (s.reg r) (bit s.cpu.f 4) (t.reg r) ∧ OthersKept r s t ∧ ControlKept s t ∧
      FlagsAre t.cpu.f (t.reg r = 0) False False (rotatedCarry op (s.reg r) = true)

/-- R316, R318, R320, R322, R324, R326, R328, R330: the `(HL)` forms: one read, then one write through the bus, even when the
byte is unchanged. -/
def Obligations.MemoryRotates : Prop :=
  ∀ (op : RotOp) (s : State),
    encode (Instr.rotAtHl op) = [0xCB, BitVec.ofNat 8 (8 * op.code + 6)] ∧
      ∃ t w, exec (Instr.rotAtHl op) s = .next t ∧
      Rotated op (s.memRead (joinBytes s.cpu.h s.cpu.l)) (bit s.cpu.f 4) w ∧
      StoresByte s (joinBytes s.cpu.h s.cpu.l) w { s.cpu with f := t.cpu.f } 16 t ∧
      FlagsAre t.cpu.f (w = 0) False False (rotatedCarry op (s.memRead (joinBytes s.cpu.h s.cpu.l)) = true)

/-- R331, R332: BIT sets Z to the complement of the bit, N to 0, H to 1, keeps C, and writes no register and no memory. -/
def Obligations.BitTests : Prop :=
  ∀ (b : Fin 8) (r : Reg8) (s : State),
    (encode (Instr.bitReg b r) = [0xCB, BitVec.ofNat 8 (0x40 + 8 * b.val + r.code)] ∧
      ∃ t, exec (Instr.bitReg b r) s = .next t ∧ RegistersOnly s { s.cpu with f := t.cpu.f } 8 t ∧
      FlagsAre t.cpu.f (bit (s.reg r) b.val = false) False True (bit s.cpu.f 4 = true)) ∧
    (encode (Instr.bitAtHl b) = [0xCB, BitVec.ofNat 8 (0x46 + 8 * b.val)] ∧
      ∃ t, exec (Instr.bitAtHl b) s = .next t ∧ RegistersOnly s { s.cpu with f := t.cpu.f } 12 t ∧
      FlagsAre t.cpu.f (bit (s.memRead (joinBytes s.cpu.h s.cpu.l)) b.val = false) False True (bit s.cpu.f 4 = true))

/-- R333, R334, R335, R336: RES and SET change exactly the one bit, and no flag. -/
def Obligations.BitResetAndSet : Prop :=
  ∀ (b : Fin 8) (r : Reg8) (s : State),
    (encode (Instr.resReg b r) = [0xCB, BitVec.ofNat 8 (0x80 + 8 * b.val + r.code)] ∧
      ∃ t, exec (Instr.resReg b r) s = .next t ∧ RegistersOnly s t.cpu 8 t ∧
      (∀ i, i < 8 → bit (t.reg r) i = (decide (i ≠ b.val) && bit (s.reg r) i)) ∧
      OthersKept r s t ∧ t.cpu.f = s.cpu.f ∧ ControlKept s t) ∧
    (encode (Instr.setReg b r) = [0xCB, BitVec.ofNat 8 (0xC0 + 8 * b.val + r.code)] ∧
      ∃ t, exec (Instr.setReg b r) s = .next t ∧ RegistersOnly s t.cpu 8 t ∧
      (∀ i, i < 8 → bit (t.reg r) i = (decide (i = b.val) || bit (s.reg r) i)) ∧
      OthersKept r s t ∧ t.cpu.f = s.cpu.f ∧ ControlKept s t) ∧
    (encode (Instr.resAtHl b) = [0xCB, BitVec.ofNat 8 (0x86 + 8 * b.val)] ∧
      ∃ t w, exec (Instr.resAtHl b) s = .next t ∧
      (∀ i, i < 8 → bit w i = (decide (i ≠ b.val) && bit (s.memRead (joinBytes s.cpu.h s.cpu.l)) i)) ∧
      StoresByte s (joinBytes s.cpu.h s.cpu.l) w s.cpu 16 t) ∧
    (encode (Instr.setAtHl b) = [0xCB, BitVec.ofNat 8 (0xC6 + 8 * b.val)] ∧
      ∃ t w, exec (Instr.setAtHl b) s = .next t ∧
      (∀ i, i < 8 → bit w i = (decide (i = b.val) || bit (s.memRead (joinBytes s.cpu.h s.cpu.l)) i)) ∧
      StoresByte s (joinBytes s.cpu.h s.cpu.l) w s.cpu 16 t)

/-- Derived from R314 (the constructor for the table's prefix row is the model's choice, log 9): executing the prefix row
with second byte `op2` is executing the CB instruction that the fields of `op2` name, and it completes. -/
def Obligations.PrefixRunsSecondByte : Prop :=
  ∀ (op2 : Byte) (s : State), ∃ t, exec (.prefixCb op2) s = .next t ∧ exec (decodeCb op2) s = .next t

/-! ## Control flow -/

/-- R340 to R344: jumps set PC alone; a conditional one costs less when it is not taken, and then changes nothing. -/
def Obligations.Jumps : Prop :=
  ∀ (cc : Cond) (a16 : Word) (e8 : Byte) (s : State),
    (encode (.jpA16 a16) = [0xC3, loByte a16, hiByte a16] ∧
      ∃ t, exec (.jpA16 a16) s = .next t ∧ RegistersOnly s { s.cpu with pc := a16 } 16 t) ∧
    (encode .jpHl = [0xE9] ∧
      ∃ t, exec .jpHl s = .next t ∧ RegistersOnly s { s.cpu with pc := joinBytes s.cpu.h s.cpu.l } 4 t) ∧
    (encode (.jrE8 e8) = [0x18, e8] ∧
      ∃ t pc, exec (.jrE8 e8) s = .next t ∧ (pc.toNat : Int) = ((s.cpu.pc.toNat : Int) + e8.toInt) % 65536 ∧
      RegistersOnly s { s.cpu with pc := pc } 12 t) ∧
    (encode (Instr.jpCond cc a16) = [BitVec.ofNat 8 (0xC2 + 8 * cc.code), loByte a16, hiByte a16] ∧
      ∃ t, exec (Instr.jpCond cc a16) s = .next t ∧
      (s.cond cc = true → RegistersOnly s { s.cpu with pc := a16 } 16 t) ∧
      (s.cond cc = false → RegistersOnly s s.cpu 12 t)) ∧
    (encode (Instr.jrCond cc e8) = [BitVec.ofNat 8 (0x20 + 8 * cc.code), e8] ∧
      ∃ t pc, exec (Instr.jrCond cc e8) s = .next t ∧ (pc.toNat : Int) = ((s.cpu.pc.toNat : Int) + e8.toInt) % 65536 ∧
      (s.cond cc = true → RegistersOnly s { s.cpu with pc := pc } 12 t) ∧
      (s.cond cc = false → RegistersOnly s s.cpu 8 t)) ∧
    (s.cond .nz = !bit s.cpu.f 7) ∧ (s.cond .z = bit s.cpu.f 7) ∧ (s.cond .nc = !bit s.cpu.f 4) ∧
    (s.cond .c = bit s.cpu.f 4)

/-- R345, R346, R350: CALL and RST push PC, high byte first, and jump; a CALL that is not taken changes nothing. -/
def Obligations.CallsAndRestarts : Prop :=
  ∀ (cc : Cond) (n : Fin 8) (a16 : Word) (s : State),
    (encode (.callA16 a16) = [0xCD, loByte a16, hiByte a16] ∧ ∃ t, exec (.callA16 a16) s = .next t ∧
      StoresTwoBytes s (s.cpu.sp - 1) (hiByte s.cpu.pc) (s.cpu.sp - 2) (loByte s.cpu.pc)
        { s.cpu with sp := s.cpu.sp - 2, pc := a16 } 24 t) ∧
    (encode (Instr.callCond cc a16) = [BitVec.ofNat 8 (0xC4 + 8 * cc.code), loByte a16, hiByte a16] ∧
      ∃ t, exec (Instr.callCond cc a16) s = .next t ∧
      (s.cond cc = true →
        StoresTwoBytes s (s.cpu.sp - 1) (hiByte s.cpu.pc) (s.cpu.sp - 2) (loByte s.cpu.pc)
          { s.cpu with sp := s.cpu.sp - 2, pc := a16 } 24 t) ∧
      (s.cond cc = false → RegistersOnly s s.cpu 12 t)) ∧
    (encode (Instr.rst n) = [BitVec.ofNat 8 (0xC7 + 8 * n.val)] ∧ ∃ t, exec (Instr.rst n) s = .next t ∧
      StoresTwoBytes s (s.cpu.sp - 1) (hiByte s.cpu.pc) (s.cpu.sp - 2) (loByte s.cpu.pc)
        { s.cpu with sp := s.cpu.sp - 2, pc := BitVec.ofNat 16 (n.val * 8) } 16 t)

/-- R347, R348, R349: RET pops PC; RET cc does so when its condition holds and else changes nothing; RETI also sets IME to 1
at once and restores nothing else. -/
def Obligations.Returns : Prop :=
  ∀ (cc : Cond) (s : State) (target : Word),
    target = joinBytes (s.memRead (s.cpu.sp + 1)) (s.memRead s.cpu.sp) →
    (encode .ret = [0xC9] ∧
      ∃ t, exec .ret s = .next t ∧ RegistersOnly s { s.cpu with sp := s.cpu.sp + 2, pc := target } 16 t) ∧
    (encode (Instr.retCond cc) = [BitVec.ofNat 8 (0xC0 + 8 * cc.code)] ∧ ∃ t, exec (Instr.retCond cc) s = .next t ∧
      (s.cond cc = true → RegistersOnly s { s.cpu with sp := s.cpu.sp + 2, pc := target } 20 t) ∧
      (s.cond cc = false → RegistersOnly s s.cpu 8 t)) ∧
    (encode .reti = [0xD9] ∧ ∃ t, exec .reti s = .next t ∧
      RegistersOnly s { s.cpu with sp := s.cpu.sp + 2, pc := target, ime := .enabled } 16 t)

/-- R370, R371, R372, R374, R375: NOP and STOP change nothing, HALT sets the halted flag, DI clears IME, EI schedules the
enable unless IME is already 1 or 2. -/
def Obligations.SystemInstructions : Prop :=
  ∀ (operand : Byte) (s : State),
    (encode .nop = [0x00] ∧ ∃ t, exec .nop s = .next t ∧ RegistersOnly s s.cpu 4 t) ∧
    (encode (.stop operand) = [0x10, operand] ∧ ∃ t, exec (.stop operand) s = .next t ∧ RegistersOnly s s.cpu 4 t) ∧
    (encode .halt = [0x76] ∧ ∃ t, exec .halt s = .next t ∧ RegistersOnly s { s.cpu with halted := true } 4 t) ∧
    (encode .di = [0xF3] ∧ ∃ t, exec .di s = .next t ∧ RegistersOnly s { s.cpu with ime := .disabled } 4 t) ∧
    (encode .ei = [0xFB] ∧
      ∃ t, exec .ei s = .next t ∧ (s.cpu.ime = .disabled → RegistersOnly s { s.cpu with ime := .pending } 4 t) ∧
      (s.cpu.ime ≠ .disabled → RegistersOnly s s.cpu 4 t))

/-! ## Interrupts -/

/-- R375, R402, R561: the step that runs EI from IME = 0 ends with IME = 2, so nothing is dispatched: PC is after the EI and
no other register changed. A step that starts with IME = 2 and runs NOP has IME = 1 when its service call comes. -/
def Obligations.EnableInterruptsDelay : Prop :=
  (∀ s b : State, b = s.atBoundary → s.runs → b.cpu.ime = .disabled → b.memRead b.cpu.pc = 0xFB →
    ∃ t, step s = .next t ∧ t.cpu = { b.cpu with pc := b.cpu.pc + 1, ime := .pending }) ∧
  (∀ s b : State, b = s.atBoundary → s.runs → b.cpu.ime = .pending → b.memRead b.cpu.pc = 0x00 →
    ∃ d : State, step s = .next d.service ∧ d.cpu = { b.cpu with pc := b.cpu.pc + 1, ime := .enabled })

/-- R412, R413, R414: with IME = 1 and a source pending and enabled, service takes the lowest such source `k`: a halted CPU
is woken, IME becomes 0, IF bit `k` is cleared and no other, PC is pushed high byte first, and PC goes to 0x40 + 8k. Where
the two stack bytes are plain storage they hold the old PC. With no source pending and enabled service changes nothing, and
with IME other than 1 it only wakes a halted CPU. -/
def Obligations.ServiceTakesLowestSource : Prop :=
  ∀ (s : State) (p : Byte), p = s.io 0xFF0F &&& s.io 0xFFFF &&& 0x1F →
    (p = 0 → s.service = s) ∧
    (s.cpu.ime ≠ .enabled → p ≠ 0 → s.service = { s with cpu := { s.cpu with halted := false } }) ∧
    (s.cpu.ime = .enabled → p ≠ 0 → ∃ k u, k < 5 ∧ bit p k = true ∧ (∀ j, j < k → bit p j = false) ∧
      (∀ i, i < 8 → bit (u.io 0xFF0F) i = (decide (i ≠ k) && bit (s.io 0xFF0F) i)) ∧
      u = s.store .m 0xFF0F (u.io 0xFF0F) ∧
      StoresTwoBytes u (s.cpu.sp - 1) (hiByte s.cpu.pc) (s.cpu.sp - 2) (loByte s.cpu.pc)
        { s.cpu with halted := false, ime := .disabled, sp := s.cpu.sp - 2, pc := BitVec.ofNat 16 (0x40 + 8 * k) }
        s.cycles s.service)

/-! ## Memory and devices of the bus -/

/-- R121, R131, R132: a write below 0x8000 does nothing on a ROM-only cartridge; with MBC1 it sets its one field and nothing
else. The next read of window N shows the bank the fields name (never bank 0), window 0 always shows bank 0, and offsets at or
past the image end read 0xFF. -/
def Obligations.CartridgeBanking : Prop :=
  ∀ (s t : State) (addr : Word) (v : Byte), addr.toNat < 0x8000 → t = s.memWrite addr v →
    (s.cart.mapper = .romOnly →
      t = s ∧ ∀ a : Word, a.toNat < 0x8000 →
        t.memRead a = if a.toNat < s.cart.romLen then s.mem.get .rom a.toNat else 0xFF) ∧
    (s.cart.mapper = .mbc1 →
      t = { s with mbc := t.mbc } ∧
      (t.mbc.ramEn = if addr.toNat < 0x2000 then decide (v.toNat % 16 = 0x0A) else s.mbc.ramEn) ∧
      (t.mbc.bankLo.toNat =
        if 0x2000 ≤ addr.toNat ∧ addr.toNat < 0x4000 then (if v.toNat % 32 = 0 then 1 else v.toNat % 32)
        else s.mbc.bankLo.toNat) ∧
      (t.mbc.bankHi.toNat = if 0x4000 ≤ addr.toNat ∧ addr.toNat < 0x6000 then v.toNat % 4 else s.mbc.bankHi.toNat) ∧
      (t.mbc.mode = if 0x6000 ≤ addr.toNat then bit v 0 else s.mbc.mode) ∧
      (∀ (a : Word) (bank : Nat), a.toNat < 0x8000 →
        bank = (if t.mbc.mode then t.mbc.bankLo.toNat else t.mbc.bankHi.toNat * 32 + t.mbc.bankLo.toNat) →
        t.memRead a =
          if a.toNat < 0x4000 then (if a.toNat < s.cart.romLen then s.mem.get .rom a.toNat else 0xFF)
          else if bank * 0x4000 + (a.toNat - 0x4000) < s.cart.romLen then
            s.mem.get .rom (bank * 0x4000 + (a.toNat - 0x4000))
          else 0xFF))

/-- R122: external RAM that is disabled, absent or too small for the address reads 0xFF and drops writes; otherwise a write
there is read back at the same address, and lands in the bank that mode and BANKHI select. -/
def Obligations.ExternalRam : Prop :=
  ∀ (s : State) (addr : Word) (v : Byte) (off : Nat), 0xA000 ≤ addr.toNat → addr.toNat < 0xC000 →
    off = (if s.mbc.mode then s.mbc.bankHi.toNat else 0) * 0x2000 + (addr.toNat - 0xA000) →
    (¬ (s.cart.mapper = .mbc1 ∧ s.mbc.ramEn = true ∧ off < s.cart.eramBytes) →
      s.memRead addr = 0xFF ∧ s.memWrite addr v = s) ∧
    (s.cart.mapper = .mbc1 → s.mbc.ramEn = true → off < s.cart.eramBytes →
      s.memRead addr = s.mem.get .eram off ∧ s.memWrite addr v = s.store .eram off v ∧
      (s.memWrite addr v).memRead addr = v)

/-- R135: a write to 0xFF46 stores the byte, then OAM byte `i` holds what the bus read at page * 0x100 + `i` after that store;
no other cell and no other part of the machine changes. -/
def Obligations.OamDmaCopies : Prop :=
  ∀ (s t u : State) (v : Byte), t = s.memWrite 0xFF46 v → u = s.store .m 0xFF46 v →
    t = { s with mem := t.mem } ∧ t.io 0xFF46 = v ∧
    (∀ i, i < 160 → t.io (0xFE00 + i) = u.memRead (BitVec.ofNat 16 (v.toNat * 0x100 + i))) ∧
    (∀ st o, ¬ (st = .m ∧ ((0xFE00 ≤ o ∧ o < 0xFEA0) ∨ o = 0xFF46)) → t.mem.get st o = s.mem.get st o)

/-- R41, R441: a press sets its bit of `pressed` and requests the Joypad interrupt, a release clears the bit and requests
nothing; the read of P1 shows bits 7-6 as 1, the stored select bits, and each line low exactly when a selected group has
its button held; a write stores only bits 5-4. -/
def Obligations.JoypadLines : Prop :=
  ∀ (s : State) (btn : Button) (v : Byte),
    (∀ i, i < 8 → bit (s.applyEvent (.press btn)).pressed i = (decide (i = btn.index) || bit s.pressed i)) ∧
    (∀ i, i < 8 → bit ((s.applyEvent (.press btn)).io 0xFF0F) i = (decide (i = 4) || bit (s.io 0xFF0F) i)) ∧
    (∀ i, i < 8 → bit (s.applyEvent (.release btn)).pressed i = (decide (i ≠ btn.index) && bit s.pressed i)) ∧
    (s.applyEvent (.release btn)).mem = s.mem ∧
    bit (s.memRead 0xFF00) 7 = true ∧ bit (s.memRead 0xFF00) 6 = true ∧
    bit (s.memRead 0xFF00) 5 = bit (s.io 0xFF00) 5 ∧ bit (s.memRead 0xFF00) 4 = bit (s.io 0xFF00) 4 ∧
    (∀ i, i < 4 → (bit (s.memRead 0xFF00) i = false ↔
      (bit (s.io 0xFF00) 4 = false ∧ bit s.pressed i = true) ∨
      (bit (s.io 0xFF00) 5 = false ∧ bit s.pressed (i + 4) = true))) ∧
    s.memWrite 0xFF00 v = s.store .m 0xFF00 (v &&& 0x30)

/-- R71, R72: a write to a palette data port lands at the index of the port's index register, which then moves on by one,
modulo 64, if its bit 7 is set, keeping its bits 7 and 6; nothing else changes. A read of the port returns the byte at the
index. -/
def Obligations.PalettePorts : Prop :=
  ∀ (s t : State) (v : Byte) (pal : Store) (idx : Nat) (port : Word),
    (pal = .bgpal ∧ idx = 0xFF68 ∧ port = 0xFF69) ∨ (pal = .objpal ∧ idx = 0xFF6A ∧ port = 0xFF6B) →
    t = s.memWrite port v →
    t = { s with mem := t.mem } ∧ s.memRead port = s.mem.get pal ((s.io idx).toNat % 64) ∧
    t.mem.get pal ((s.io idx).toNat % 64) = v ∧
    (t.io idx).toNat / 64 = (s.io idx).toNat / 64 ∧
    (t.io idx).toNat % 64 =
      (if bit (s.io idx) 7 = true then ((s.io idx).toNat % 64 + 1) % 64 else (s.io idx).toNat % 64) ∧
    (∀ st o, ¬ (st = pal ∧ o = (s.io idx).toNat % 64) → ¬ (st = .m ∧ o = idx) → t.mem.get st o = s.mem.get st o)

/-! ## Timer -/

/-- R430, R431: with TAC's enable bit set, any stretch of one period of the selected divider bit (1,024, 16, 64 or 256
cycles) counts TIMA exactly once, whatever the divider was: TIMA moves up by one, or from 0xFF to TMA with IF bit 2 set. With
the bit clear, no stretch of cycles changes TIMA or IF. The divider always moves by the cycles, modulo 2^16. R43, R432: DIV
reads its high byte, and a write of any value to DIV clears the whole divider and changes nothing else: TIMA is not counted. -/
def Obligations.TimerAndDivider : Prop :=
  ∀ (s : State) (n : Nat) (v : Byte),
    s.memWrite 0xFF04 v = { s with divider := 0 } ∧ (s.memRead 0xFF04).toNat = s.divider.toNat / 256 ∧
    (s.timerAdvance n).divider.toNat = (s.divider.toNat + n) % 65536 ∧
    (bit (s.io 0xFF07) 2 = false →
      (s.timerAdvance n).io 0xFF05 = s.io 0xFF05 ∧ (s.timerAdvance n).io 0xFF0F = s.io 0xFF0F) ∧
    (bit (s.io 0xFF07) 2 = true →
      (n = match (s.io 0xFF07).toNat % 4 with | 0 => 1024 | 1 => 16 | 2 => 64 | _ => 256) →
      (s.io 0xFF05 ≠ 0xFF →
        (s.timerAdvance n).io 0xFF05 = s.io 0xFF05 + 1 ∧ (s.timerAdvance n).io 0xFF0F = s.io 0xFF0F) ∧
      (s.io 0xFF05 = 0xFF →
        (s.timerAdvance n).io 0xFF05 = s.io 0xFF06 ∧ (s.timerAdvance n).io 0xFF0F = s.io 0xFF0F ||| 0x04))

/-! ## PPU -/

/-- R450, R451: from a legal place of the frame, `n` cycles move the PPU `n` places on in the frame of 70,224, and leave it
in the mode of the place it reaches. -/
def Obligations.PpuPosition : Prop :=
  ∀ (s : State) (n : Nat), s.ppu.Legal →
    (s.ppuAdvance n).ppu.Legal ∧ (s.ppuAdvance n).ppu.place = (s.ppu.place + n) % 70224

/-- R452, R453, R454, R455: one PPU cycle requests VBlank exactly when the LCD is on and line 144 begins, STAT exactly when
the LCD is on and it enters a mode whose enable bit is set; it hands over a frame exactly when line 144 begins, rendered or
white; and the coincidence check requests STAT on a 0-to-1 change alone. -/
def Obligations.PpuRequests : Prop :=
  ∀ s : State, s.ppu.Legal →
    (bit (s.ppuTick.io 0xFF0F) 0 = true ↔
      bit (s.io 0xFF0F) 0 = true ∨ (bit (s.io 0xFF40) 7 = true ∧ s.ppu.entersVBlank)) ∧
    (bit (s.ppuTick.io 0xFF0F) 1 = true ↔
      bit (s.io 0xFF0F) 1 = true ∨
        (bit (s.io 0xFF40) 7 = true ∧ ∃ k, s.ppu.entersEnableBit k ∧ bit (s.io 0xFF41) k = true)) ∧
    (∀ k, 2 ≤ k → k < 8 → bit (s.ppuTick.io 0xFF0F) k = bit (s.io 0xFF0F) k) ∧
    (¬ s.ppu.entersVBlank → s.ppuTick.out.frame = s.out.frame) ∧
    (s.ppu.entersVBlank → ∃ f, s.ppuTick.out.frame = some f ∧
      f = if bit (s.io 0xFF40) 7 then s.renderFrame else s.whiteFrame) ∧
    (s.coincidenceCheck.ppu.coinc = true ↔ s.ppu.ly = (s.io 0xFF45).toNat) ∧
    (bit (s.coincidenceCheck.io 0xFF0F) 1 = true ↔
      bit (s.io 0xFF0F) 1 = true ∨ (bit (s.io 0xFF40) 7 = true ∧ s.ppu.coinc = false ∧
        s.ppu.ly = (s.io 0xFF45).toNat ∧ bit (s.io 0xFF41) 6 = true))

/-- R456: while LCDC bit 7 is 0, no stretch of cycles requests an interrupt, and STAT's mode field reads 0; `coinc` is still
updated. -/
def Obligations.LcdOffRequestsNothing : Prop :=
  ∀ (s : State) (n : Nat), bit (s.io 0xFF40) 7 = false →
    (s.ppuAdvance n).mem = s.mem ∧ ((s.ppuAdvance n).memRead 0xFF41).toNat % 4 = 0 ∧
    ((s.ppuAdvance n).ppu.coinc = true ↔ (s.ppuAdvance n).ppu.ly = (s.io 0xFF45).toNat)

/-- R465, R467, R471: the frame has 144 rows of 160 pixels, each the pixel of its place; where no sprite is drawn it is the
background or window pixel, and in monochrome mode with LCDC bit 0 = 0 that is shade 0 of BGP. -/
def Obligations.FrameShape : Prop :=
  ∀ s : State, s.renderFrame.length = 144 ∧ (∀ row ∈ s.renderFrame, row.length = 160) ∧
    (∀ x y, x < 160 → y < 144 → (s.renderFrame[y]?.bind (fun row => row[x]?)) = some (s.pixel x y)) ∧
    (∀ x y, bit (s.io 0xFF40) 1 = false → s.pixel x y = (s.bgPixel x y).colour) ∧
    (∀ x y, s.cart.colorMode = false → bit (s.io 0xFF40) 0 = false →
      (s.bgPixel x y).colour = .shade (BitVec.ofNat 2 (s.io 0xFF47).toNat))

/-! ## APU -/

/-- R507: over `n` cycles the accumulator gains `n` times the sample rate, modulo 4,194,304, and exactly that many whole
multiples become samples; every batch handed over has the batch size. The parameters stand in `State.launch` (log 4) and the
batches handed over in `State.out` (log 5). -/
def Obligations.SampleClock : Prop :=
  ∀ (s : State) (n : Nat), s.launch.Legal → s.apu.acc < 4194304 → s.apu.batch.length < s.launch.batchSize →
    (s.apuAdvance n).apu.acc = (s.apu.acc + n * s.launch.sampleRate) % 4194304 ∧
    (s.apuAdvance n).samples = s.samples + (s.apu.acc + n * s.launch.sampleRate) / 4194304 ∧
    (s.apuAdvance n).apu.batch.length < s.launch.batchSize ∧
    (∀ b ∈ (s.apuAdvance n).out.audio, b ∈ s.out.audio ∨ b.length = s.launch.batchSize)

/-- R502: an enabled channel 2 whose length is enabled stops after exactly the cycles that are left of (64 - L) * 16384 since
its trigger, and with the length disabled it never stops. A disabled channel stays as it is. -/
def Obligations.ChannelLength : Prop :=
  ∀ (r : ChannelRegs) (ch : Channel) (n : Nat),
    (ch.en = false → iterate (channel2Tick r) n ch = ch) ∧
    (ch.en = true → bit r.nrx4 6 = false →
      (iterate (channel2Tick r) n ch).en = true ∧ (iterate (channel2Tick r) n ch).ltimer = ch.ltimer + n) ∧
    (ch.en = true → bit r.nrx4 6 = true → 0 < n →
      ((iterate (channel2Tick r) n ch).en = true ↔ ch.ltimer + n < (64 - r.nrx1.toNat % 64) * 16384))

/-- R510, R511: a write to NR14 stores the byte and loads the frequency's high bits, and with bit 7 set it triggers channel 1
with the new frequency: enabled, volume from NR12, envelope, length and sweep timers 0, shadow from the frequency; phase and
duty timer are kept, and channel 2, the accumulator and the batch are not touched. -/
def Obligations.ChannelTrigger : Prop :=
  ∀ (s t : State) (v : Byte), t = s.memWrite 0xFF14 v →
    t.io 0xFF14 = v ∧ t.apu.ch1.freq.toNat = v.toNat % 8 * 256 + s.apu.ch1.freq.toNat % 256 ∧
    t.apu.ch1.phase = s.apu.ch1.phase ∧ t.apu.ch1.ftimer = s.apu.ch1.ftimer ∧ t.apu.ch2 = s.apu.ch2 ∧
    t.apu.acc = s.apu.acc ∧ t.apu.batch = s.apu.batch ∧
    (bit v 7 = true → t.apu.ch1.en = true ∧ t.apu.ch1.vol.toNat = (s.io 0xFF12).toNat / 16 ∧ t.apu.ch1.etimer = 0 ∧
      t.apu.ch1.ltimer = 0 ∧ t.apu.sweep.stimer = 0 ∧ t.apu.sweep.shadow = t.apu.ch1.freq) ∧
    (bit v 7 = false → t.apu.ch1 = { s.apu.ch1 with freq := t.apu.ch1.freq } ∧ t.apu.sweep = s.apu.sweep)

/-! ## Load and reset -/

/-- R112, R553: a missing image or one below 0x150 bytes, a type outside the table or a RAM size outside it is refused; every
other image loads. -/
def Obligations.LoadRefusals : Prop :=
  ∀ (p : LaunchParams) (rom : List Byte),
    (p.rom = none → load p = .refused .fatalLoadError) ∧
    (p.rom = some rom → rom.length < 0x150 → load p = .refused .fatalLoadError) ∧
    (p.rom = some rom → 0x150 ≤ rom.length → 3 < (rom.getD 0x147 0).toNat →
      load p = .refused (.unsupportedCartridgeType (rom.getD 0x147 0))) ∧
    (p.rom = some rom → 0x150 ≤ rom.length → (rom.getD 0x147 0).toNat ≤ 3 → 5 < (rom.getD 0x149 0).toNat →
      load p = .refused (.unsupportedRamSize (rom.getD 0x149 0))) ∧
    (p.rom = some rom → 0x150 ≤ rom.length → (rom.getD 0x147 0).toNat ≤ 3 → (rom.getD 0x149 0).toNat ≤ 5 →
      ∃ s, load p = .next s ∧
        (s.cart.mapper = if rom.getD 0x147 0 = 0 then .romOnly else .mbc1) ∧
        (s.cart.colorMode = true ↔ rom.getD 0x143 0 = 0x80 ∨ rom.getD 0x143 0 = 0xC0) ∧
        (∀ a : Word, a.toNat < 0x8000 → s.memRead a = rom.getD a.toNat 0xFF))

/-- R39, R551 and part of R550: whatever the image and the initial memory, the machine a load builds has the CPU column of its
mode, the MBC1, timer, PPU and APU state and every I/O byte of R551's table at the stated reset values; every other byte of `M`
holds what `P_INIT_MEM` gives; STAT reads 0x86 and P1 0xFF. -/
def Obligations.ResetState : Prop :=
  ∀ (p : LaunchParams) (s : State), load p = .next s →
    s.cpu.sp = 0xFFFE ∧ s.cpu.pc = 0x0100 ∧ s.cpu.ime = .disabled ∧ s.cpu.halted = false ∧
    (s.cart.colorMode = false → s.cpu.a = 0x01 ∧ s.cpu.f = 0xB0 ∧ s.cpu.b = 0x00 ∧ s.cpu.c = 0x13 ∧ s.cpu.d = 0x00 ∧
      s.cpu.e = 0xD8 ∧ s.cpu.h = 0x01 ∧ s.cpu.l = 0x4D) ∧
    (s.cart.colorMode = true → s.cpu.a = 0x11 ∧ s.cpu.f = 0x80 ∧ s.cpu.b = 0x00 ∧ s.cpu.c = 0x00 ∧ s.cpu.d = 0xFF ∧
      s.cpu.e = 0x56 ∧ s.cpu.h = 0x00 ∧ s.cpu.l = 0x0D) ∧
    s.mbc = { ramEn := false, bankLo := 1, bankHi := 0, mode := false } ∧ s.divider = 0 ∧
    s.ppu = { dot := 0, ly := 0, mode := .oamScan, coinc := true } ∧
    s.apu.ch1.en = false ∧ s.apu.ch2.en = false ∧ s.apu.acc = 0 ∧ s.apu.batch = [] ∧ s.pressed = 0 ∧ s.fault = none ∧
    (∀ c ∈ resetTable, s.io c.1 = c.2) ∧
    (∀ a, a ∉ resetTable.map Prod.fst → s.io a = (Mem.ofCells 0x10000 p.initM).get a) ∧ s.memRead 0xFF41 = 0x86 ∧ s.memRead 0xFF00 = 0xFF ∧ s.memRead 0xFF0F = 0xE1 ∧
    s.memRead 0xFF40 = 0x91 ∧ s.memRead 0xFF07 = 0xF8 ∧ s.memRead 0xFFFF = 0x00 ∧ s.memRead 0xFF44 = 0 ∧
    s.memRead 0xFF04 = 0

/-! ## Whole-machine rules -/

/-- Derived from R33, R62, R75, R78, R79 and R450: every step keeps the invariant of legal states. The canonical form of the memory is
the model's own, and the clause on the audio parameters of R8 rests on log 4. -/
def Obligations.InvariantKept : Prop := ∀ s t : State, s.Inv → step s = .next t → t.Inv

/-- Derived from R8 and R550: the reset state is legal, and so is the machine that any load with parameters R8 allows builds. What
State.reset holds beside R550's values is the model's choice (log 1, log 2, log 4). -/
def Obligations.InvariantAtReset : Prop :=
  State.reset.Inv ∧ ∀ (p : LaunchParams) (s : State), p.ok = true → load p = .next s → s.Inv

/-- Derived from R76, R113 and R131: no step changes the cartridge profile or a byte of the ROM image. That no step changes
the audio parameters of R8 rests on the model's choice to hold them in `State.launch` (log 4). -/
def Obligations.SessionConstants : Prop := ∀ s t : State, step s = .next t → SessionKept s t

/-- R36, R37, R38: an instruction whose rule lists no changed flag leaves F as it was; only HALT changes the halted flag; and
only EI, DI and RETI change IME. -/
def Obligations.FlagAndControlWriters : Prop :=
  ∀ (i : Instr) (s t : State), i.wf = true → exec i s = .next t →
    (¬ WritesFlags i → t.cpu.f = s.cpu.f) ∧ (i ≠ .halt → t.cpu.halted = s.cpu.halted) ∧
    (i ≠ .ei → i ≠ .di → i ≠ .reti → t.cpu.ime = s.cpu.ime)
end

