-- ==== Sys2Proof/Laws/Memory.lean ====
section
/-! SUPPORT. The laws of one storage array and of the seven together: read after write, and that a write keeps the
canonical form. -/

namespace Sys2Proof.Machine

/-! ## One array -/

theorem Mem.get_erase (m : Mem) (a b : Nat) : (m.erase a).get b = if a = b then unlistedByte else m.get b := by
  induction m with
  | nil => simp [Mem.erase, Mem.get]
  | cons c rest ih =>
    obtain ⟨k, w⟩ := c
    simp only [Mem.erase, Mem.get]
    split
    · rename_i hk
      subst hk
      rw [ih]
      split <;> rfl
    · rename_i hk
      simp only [Mem.get, ih]
      by_cases hb : k = b
      · simp [hb, show ¬ a = b by omega]
      · simp [hb]

theorem Mem.get_insert_other (m : Mem) (a b : Nat) (v : Byte) (h : a ≠ b) : (m.insert a v).get b = m.get b := by
  induction m with
  | nil => simp [Mem.insert, Mem.get, h]
  | cons c rest ih =>
    obtain ⟨k, w⟩ := c
    simp only [Mem.insert]
    split
    · simp [Mem.get, h]
    · simp only [Mem.get, ih]

theorem Mem.get_insert_erase (m : Mem) (a : Nat) (v : Byte) : ((m.erase a).insert a v).get a = v := by
  induction m with
  | nil => simp [Mem.erase, Mem.insert, Mem.get]
  | cons c rest ih =>
    obtain ⟨k, w⟩ := c
    simp only [Mem.erase]
    split
    · exact ih
    · rename_i hk
      simp only [Mem.insert]
      split
      · simp [Mem.get]
      · simp [Mem.get, hk, ih]

/-- Read after write: the byte written at its address, every other byte as before. -/
theorem Mem.get_set (m : Mem) (a b : Nat) (v : Byte) : (m.set a v).get b = if a = b then v else m.get b := by
  unfold Mem.set
  split
  · rename_i hv
    rw [Mem.get_erase, hv]
  · by_cases h : a = b
    · subst h
      simp [Mem.get_insert_erase]
    · rw [Mem.get_insert_other _ _ _ _ h, Mem.get_erase, if_neg h, if_neg h]

theorem Mem.wfFrom_mono (m : Mem) (lo lo' : Nat) (h : lo' ≤ lo) (hm : Mem.wfFrom lo m = true) :
    Mem.wfFrom lo' m = true := by
  cases m with
  | nil => rfl
  | cons c rest =>
    obtain ⟨k, w⟩ := c
    simp only [Mem.wfFrom, Bool.and_eq_true, decide_eq_true_eq] at hm ⊢
    exact ⟨⟨by omega, hm.1.2⟩, hm.2⟩

theorem Mem.wfFrom_erase (m : Mem) (a lo : Nat) (hm : Mem.wfFrom lo m = true) : Mem.wfFrom lo (m.erase a) = true := by
  induction m generalizing lo with
  | nil => rfl
  | cons c rest ih =>
    obtain ⟨k, w⟩ := c
    simp only [Mem.wfFrom, Bool.and_eq_true, decide_eq_true_eq] at hm
    simp only [Mem.erase]
    split
    · exact Mem.wfFrom_mono _ (k + 1) lo (by omega) (ih _ hm.2)
    · simp only [Mem.wfFrom, Bool.and_eq_true, decide_eq_true_eq]
      exact ⟨hm.1, ih _ hm.2⟩

theorem Mem.wfFrom_insert_erase (m : Mem) (a lo : Nat) (v : Byte) (hv : v ≠ unlistedByte) (hlo : lo ≤ a)
    (hm : Mem.wfFrom lo m = true) : Mem.wfFrom lo ((m.erase a).insert a v) = true := by
  induction m generalizing lo with
  | nil => simp [Mem.erase, Mem.insert, Mem.wfFrom, hlo, hv]
  | cons c rest ih =>
    obtain ⟨k, w⟩ := c
    simp only [Mem.wfFrom, Bool.and_eq_true, decide_eq_true_eq] at hm
    simp only [Mem.erase]
    split
    · rename_i hk
      exact ih lo hlo (Mem.wfFrom_mono _ (k + 1) lo (by omega) hm.2)
    · rename_i hk
      simp only [Mem.insert]
      split
      · rename_i hak
        simp only [Mem.wfFrom, Bool.and_eq_true, decide_eq_true_eq]
        exact ⟨⟨hlo, hv⟩, ⟨by omega, hm.1.2⟩, Mem.wfFrom_erase _ _ _ hm.2⟩
      · simp only [Mem.wfFrom, Bool.and_eq_true, decide_eq_true_eq]
        exact ⟨hm.1, ih (k + 1) (by omega) hm.2⟩

/-- A write keeps the canonical form. -/
theorem Mem.wf_set (m : Mem) (a : Nat) (v : Byte) (hm : m.wf = true) : (m.set a v).wf = true := by
  unfold Mem.wf Mem.set at *
  split
  · exact Mem.wfFrom_erase _ _ _ hm
  · rename_i hv
    exact Mem.wfFrom_insert_erase _ _ _ _ hv (Nat.zero_le _) hm

theorem Mem.wfFrom_ofBytes (bytes : List Byte) (start : Nat) : Mem.wfFrom start (Mem.ofBytes start bytes) = true := by
  induction bytes generalizing start with
  | nil => rfl
  | cons v rest ih =>
    simp only [Mem.ofBytes]
    split
    · exact Mem.wfFrom_mono _ (start + 1) start (by omega) (ih _)
    · rename_i hv
      simp only [Mem.wfFrom, Bool.and_eq_true, decide_eq_true_eq]
      exact ⟨⟨Nat.le_refl _, hv⟩, ih _⟩

theorem Mem.wf_ofBytes (bytes : List Byte) : (Mem.ofBytes 0 bytes).wf = true := Mem.wfFrom_ofBytes bytes 0

theorem Mem.wf_foldl_set (cells : List Host.Cell) (p : Host.Cell → Bool) (m : Mem) (hm : m.wf = true) :
    (cells.foldl (fun m c => if p c then Mem.set m c.1 c.2 else m) m).wf = true := by
  induction cells generalizing m with
  | nil => exact hm
  | cons c rest ih =>
    simp only [List.foldl_cons]
    apply ih
    split
    · exact Mem.wf_set _ _ _ hm
    · exact hm

theorem Mem.wf_ofCells (size : Nat) (cells : List Host.Cell) : (Mem.ofCells size cells).wf = true := by
  have h := Mem.wf_foldl_set cells (fun c => decide (c.1 < size)) [] rfl
  simpa [Mem.ofCells] using h

theorem Mem.get_below (m : Mem) (lo a : Nat) (h : a < lo) (hm : Mem.wfFrom lo m = true) : m.get a = unlistedByte := by
  induction m generalizing lo with
  | nil => rfl
  | cons c rest ih =>
    obtain ⟨k, w⟩ := c
    simp only [Mem.wfFrom, Bool.and_eq_true, decide_eq_true_eq] at hm
    simp only [Mem.get]
    rw [if_neg (by omega)]
    exact ih (k + 1) (by omega) hm.2

/-- The byte an image holds at an offset. -/
theorem Mem.get_ofBytes (bytes : List Byte) (start o : Nat) :
    (Mem.ofBytes start bytes).get (start + o) = bytes.getD o unlistedByte := by
  induction bytes generalizing start o with
  | nil => simp [Mem.ofBytes, Mem.get]
  | cons v rest ih =>
    simp only [Mem.ofBytes]
    cases o with
    | zero =>
      split
      · rename_i hv
        rw [Mem.get_below _ (start + 1) _ (by omega) (Mem.wfFrom_ofBytes rest _)]
        simp [hv]
      · simp [Mem.get]
    | succ o =>
      have := ih (start + 1) o
      rw [show start + 1 + o = start + (o + 1) by omega] at this
      split
      · simpa using this
      · simp only [Mem.get]
        rw [if_neg (by omega)]
        simpa using this

/-! ## The seven arrays -/

/-- Read after write over all stores: only the written cell changes. -/
theorem Memory.get_set (mem : Memory) (st st' : Store) (o o' : Nat) (v : Byte) :
    (mem.set st o v).get st' o' = if st = st' ∧ o = o' then v else mem.get st' o' := by
  cases st <;> cases st' <;> simp [Memory.get, Memory.set, Memory.array, Mem.get_set]

@[simp] theorem Memory.get_set_same (mem : Memory) (st : Store) (o : Nat) (v : Byte) :
    (mem.set st o v).get st o = v := by simp [Memory.get_set]

theorem Memory.get_set_other (mem : Memory) (st st' : Store) (o o' : Nat) (v : Byte) (h : ¬ (st = st' ∧ o = o')) :
    (mem.set st o v).get st' o' = mem.get st' o' := by simp [Memory.get_set, h]

/-- Every write keeps the canonical form of all seven arrays. -/
theorem Memory.wf_set (mem : Memory) (st : Store) (o : Nat) (v : Byte) (h : mem.wf = true) :
    (mem.set st o v).wf = true := by
  simp only [Memory.wf, Bool.and_eq_true] at h ⊢
  obtain ⟨⟨⟨⟨⟨⟨h1, h2⟩, h3⟩, h4⟩, h5⟩, h6⟩, h7⟩ := h
  cases st <;> simp only [Memory.set] <;>
    simp only [Mem.wf_set, h1, h2, h3, h4, h5, h6, h7, and_self]

end Sys2Proof.Machine
end

