-- ==== Sys2Proof/Laws/State.lean ====
section
/-! SUPPORT. What each single update of the state leaves in each field: one lemma per field per update, so that no later
proof unfolds a record update. -/

namespace Sys2Proof.Machine

variable (s : State)
/-! ## State.setPc -/
@[simp] theorem State.setPc_cpu_a (v : Word) : (s.setPc v).cpu.a = s.cpu.a := rfl
@[simp] theorem State.setPc_cpu_f (v : Word) : (s.setPc v).cpu.f = s.cpu.f := rfl
@[simp] theorem State.setPc_cpu_b (v : Word) : (s.setPc v).cpu.b = s.cpu.b := rfl
@[simp] theorem State.setPc_cpu_c (v : Word) : (s.setPc v).cpu.c = s.cpu.c := rfl
@[simp] theorem State.setPc_cpu_d (v : Word) : (s.setPc v).cpu.d = s.cpu.d := rfl
@[simp] theorem State.setPc_cpu_e (v : Word) : (s.setPc v).cpu.e = s.cpu.e := rfl
@[simp] theorem State.setPc_cpu_h (v : Word) : (s.setPc v).cpu.h = s.cpu.h := rfl
@[simp] theorem State.setPc_cpu_l (v : Word) : (s.setPc v).cpu.l = s.cpu.l := rfl
@[simp] theorem State.setPc_cpu_sp (v : Word) : (s.setPc v).cpu.sp = s.cpu.sp := rfl
@[simp] theorem State.setPc_cpu_pc (v : Word) : (s.setPc v).cpu.pc = v := rfl
@[simp] theorem State.setPc_cpu_ime (v : Word) : (s.setPc v).cpu.ime = s.cpu.ime := rfl
@[simp] theorem State.setPc_cpu_halted (v : Word) : (s.setPc v).cpu.halted = s.cpu.halted := rfl
@[simp] theorem State.setPc_mem (v : Word) : (s.setPc v).mem = s.mem := rfl
@[simp] theorem State.setPc_cart (v : Word) : (s.setPc v).cart = s.cart := rfl
@[simp] theorem State.setPc_mbc (v : Word) : (s.setPc v).mbc = s.mbc := rfl
@[simp] theorem State.setPc_divider (v : Word) : (s.setPc v).divider = s.divider := rfl
@[simp] theorem State.setPc_ppu (v : Word) : (s.setPc v).ppu = s.ppu := rfl
@[simp] theorem State.setPc_apu (v : Word) : (s.setPc v).apu = s.apu := rfl
@[simp] theorem State.setPc_pressed (v : Word) : (s.setPc v).pressed = s.pressed := rfl
@[simp] theorem State.setPc_fault (v : Word) : (s.setPc v).fault = s.fault := rfl
@[simp] theorem State.setPc_cycles (v : Word) : (s.setPc v).cycles = s.cycles := rfl
@[simp] theorem State.setPc_launch (v : Word) : (s.setPc v).launch = s.launch := rfl
@[simp] theorem State.setPc_out (v : Word) : (s.setPc v).out = s.out := rfl

/-! ## State.setSp -/
@[simp] theorem State.setSp_cpu_a (v : Word) : (s.setSp v).cpu.a = s.cpu.a := rfl
@[simp] theorem State.setSp_cpu_f (v : Word) : (s.setSp v).cpu.f = s.cpu.f := rfl
@[simp] theorem State.setSp_cpu_b (v : Word) : (s.setSp v).cpu.b = s.cpu.b := rfl
@[simp] theorem State.setSp_cpu_c (v : Word) : (s.setSp v).cpu.c = s.cpu.c := rfl
@[simp] theorem State.setSp_cpu_d (v : Word) : (s.setSp v).cpu.d = s.cpu.d := rfl
@[simp] theorem State.setSp_cpu_e (v : Word) : (s.setSp v).cpu.e = s.cpu.e := rfl
@[simp] theorem State.setSp_cpu_h (v : Word) : (s.setSp v).cpu.h = s.cpu.h := rfl
@[simp] theorem State.setSp_cpu_l (v : Word) : (s.setSp v).cpu.l = s.cpu.l := rfl
@[simp] theorem State.setSp_cpu_sp (v : Word) : (s.setSp v).cpu.sp = v := rfl
@[simp] theorem State.setSp_cpu_pc (v : Word) : (s.setSp v).cpu.pc = s.cpu.pc := rfl
@[simp] theorem State.setSp_cpu_ime (v : Word) : (s.setSp v).cpu.ime = s.cpu.ime := rfl
@[simp] theorem State.setSp_cpu_halted (v : Word) : (s.setSp v).cpu.halted = s.cpu.halted := rfl
@[simp] theorem State.setSp_mem (v : Word) : (s.setSp v).mem = s.mem := rfl
@[simp] theorem State.setSp_cart (v : Word) : (s.setSp v).cart = s.cart := rfl
@[simp] theorem State.setSp_mbc (v : Word) : (s.setSp v).mbc = s.mbc := rfl
@[simp] theorem State.setSp_divider (v : Word) : (s.setSp v).divider = s.divider := rfl
@[simp] theorem State.setSp_ppu (v : Word) : (s.setSp v).ppu = s.ppu := rfl
@[simp] theorem State.setSp_apu (v : Word) : (s.setSp v).apu = s.apu := rfl
@[simp] theorem State.setSp_pressed (v : Word) : (s.setSp v).pressed = s.pressed := rfl
@[simp] theorem State.setSp_fault (v : Word) : (s.setSp v).fault = s.fault := rfl
@[simp] theorem State.setSp_cycles (v : Word) : (s.setSp v).cycles = s.cycles := rfl
@[simp] theorem State.setSp_launch (v : Word) : (s.setSp v).launch = s.launch := rfl
@[simp] theorem State.setSp_out (v : Word) : (s.setSp v).out = s.out := rfl

/-! ## State.setA -/
@[simp] theorem State.setA_cpu_a (v : Byte) : (s.setA v).cpu.a = v := rfl
@[simp] theorem State.setA_cpu_f (v : Byte) : (s.setA v).cpu.f = s.cpu.f := rfl
@[simp] theorem State.setA_cpu_b (v : Byte) : (s.setA v).cpu.b = s.cpu.b := rfl
@[simp] theorem State.setA_cpu_c (v : Byte) : (s.setA v).cpu.c = s.cpu.c := rfl
@[simp] theorem State.setA_cpu_d (v : Byte) : (s.setA v).cpu.d = s.cpu.d := rfl
@[simp] theorem State.setA_cpu_e (v : Byte) : (s.setA v).cpu.e = s.cpu.e := rfl
@[simp] theorem State.setA_cpu_h (v : Byte) : (s.setA v).cpu.h = s.cpu.h := rfl
@[simp] theorem State.setA_cpu_l (v : Byte) : (s.setA v).cpu.l = s.cpu.l := rfl
@[simp] theorem State.setA_cpu_sp (v : Byte) : (s.setA v).cpu.sp = s.cpu.sp := rfl
@[simp] theorem State.setA_cpu_pc (v : Byte) : (s.setA v).cpu.pc = s.cpu.pc := rfl
@[simp] theorem State.setA_cpu_ime (v : Byte) : (s.setA v).cpu.ime = s.cpu.ime := rfl
@[simp] theorem State.setA_cpu_halted (v : Byte) : (s.setA v).cpu.halted = s.cpu.halted := rfl
@[simp] theorem State.setA_mem (v : Byte) : (s.setA v).mem = s.mem := rfl
@[simp] theorem State.setA_cart (v : Byte) : (s.setA v).cart = s.cart := rfl
@[simp] theorem State.setA_mbc (v : Byte) : (s.setA v).mbc = s.mbc := rfl
@[simp] theorem State.setA_divider (v : Byte) : (s.setA v).divider = s.divider := rfl
@[simp] theorem State.setA_ppu (v : Byte) : (s.setA v).ppu = s.ppu := rfl
@[simp] theorem State.setA_apu (v : Byte) : (s.setA v).apu = s.apu := rfl
@[simp] theorem State.setA_pressed (v : Byte) : (s.setA v).pressed = s.pressed := rfl
@[simp] theorem State.setA_fault (v : Byte) : (s.setA v).fault = s.fault := rfl
@[simp] theorem State.setA_cycles (v : Byte) : (s.setA v).cycles = s.cycles := rfl
@[simp] theorem State.setA_launch (v : Byte) : (s.setA v).launch = s.launch := rfl
@[simp] theorem State.setA_out (v : Byte) : (s.setA v).out = s.out := rfl

/-! ## State.setF -/
@[simp] theorem State.setF_cpu_a (v : Byte) : (s.setF v).cpu.a = s.cpu.a := rfl
@[simp] theorem State.setF_cpu_f (v : Byte) : (s.setF v).cpu.f = v &&& 0xF0 := rfl
@[simp] theorem State.setF_cpu_b (v : Byte) : (s.setF v).cpu.b = s.cpu.b := rfl
@[simp] theorem State.setF_cpu_c (v : Byte) : (s.setF v).cpu.c = s.cpu.c := rfl
@[simp] theorem State.setF_cpu_d (v : Byte) : (s.setF v).cpu.d = s.cpu.d := rfl
@[simp] theorem State.setF_cpu_e (v : Byte) : (s.setF v).cpu.e = s.cpu.e := rfl
@[simp] theorem State.setF_cpu_h (v : Byte) : (s.setF v).cpu.h = s.cpu.h := rfl
@[simp] theorem State.setF_cpu_l (v : Byte) : (s.setF v).cpu.l = s.cpu.l := rfl
@[simp] theorem State.setF_cpu_sp (v : Byte) : (s.setF v).cpu.sp = s.cpu.sp := rfl
@[simp] theorem State.setF_cpu_pc (v : Byte) : (s.setF v).cpu.pc = s.cpu.pc := rfl
@[simp] theorem State.setF_cpu_ime (v : Byte) : (s.setF v).cpu.ime = s.cpu.ime := rfl
@[simp] theorem State.setF_cpu_halted (v : Byte) : (s.setF v).cpu.halted = s.cpu.halted := rfl
@[simp] theorem State.setF_mem (v : Byte) : (s.setF v).mem = s.mem := rfl
@[simp] theorem State.setF_cart (v : Byte) : (s.setF v).cart = s.cart := rfl
@[simp] theorem State.setF_mbc (v : Byte) : (s.setF v).mbc = s.mbc := rfl
@[simp] theorem State.setF_divider (v : Byte) : (s.setF v).divider = s.divider := rfl
@[simp] theorem State.setF_ppu (v : Byte) : (s.setF v).ppu = s.ppu := rfl
@[simp] theorem State.setF_apu (v : Byte) : (s.setF v).apu = s.apu := rfl
@[simp] theorem State.setF_pressed (v : Byte) : (s.setF v).pressed = s.pressed := rfl
@[simp] theorem State.setF_fault (v : Byte) : (s.setF v).fault = s.fault := rfl
@[simp] theorem State.setF_cycles (v : Byte) : (s.setF v).cycles = s.cycles := rfl
@[simp] theorem State.setF_launch (v : Byte) : (s.setF v).launch = s.launch := rfl
@[simp] theorem State.setF_out (v : Byte) : (s.setF v).out = s.out := rfl

/-! ## State.setFlags -/
@[simp] theorem State.setFlags_cpu_a (fl : Flags) : (s.setFlags fl).cpu.a = s.cpu.a := rfl
@[simp] theorem State.setFlags_cpu_f (fl : Flags) : (s.setFlags fl).cpu.f = fl.toByte &&& 0xF0 := rfl
@[simp] theorem State.setFlags_cpu_b (fl : Flags) : (s.setFlags fl).cpu.b = s.cpu.b := rfl
@[simp] theorem State.setFlags_cpu_c (fl : Flags) : (s.setFlags fl).cpu.c = s.cpu.c := rfl
@[simp] theorem State.setFlags_cpu_d (fl : Flags) : (s.setFlags fl).cpu.d = s.cpu.d := rfl
@[simp] theorem State.setFlags_cpu_e (fl : Flags) : (s.setFlags fl).cpu.e = s.cpu.e := rfl
@[simp] theorem State.setFlags_cpu_h (fl : Flags) : (s.setFlags fl).cpu.h = s.cpu.h := rfl
@[simp] theorem State.setFlags_cpu_l (fl : Flags) : (s.setFlags fl).cpu.l = s.cpu.l := rfl
@[simp] theorem State.setFlags_cpu_sp (fl : Flags) : (s.setFlags fl).cpu.sp = s.cpu.sp := rfl
@[simp] theorem State.setFlags_cpu_pc (fl : Flags) : (s.setFlags fl).cpu.pc = s.cpu.pc := rfl
@[simp] theorem State.setFlags_cpu_ime (fl : Flags) : (s.setFlags fl).cpu.ime = s.cpu.ime := rfl
@[simp] theorem State.setFlags_cpu_halted (fl : Flags) : (s.setFlags fl).cpu.halted = s.cpu.halted := rfl
@[simp] theorem State.setFlags_mem (fl : Flags) : (s.setFlags fl).mem = s.mem := rfl
@[simp] theorem State.setFlags_cart (fl : Flags) : (s.setFlags fl).cart = s.cart := rfl
@[simp] theorem State.setFlags_mbc (fl : Flags) : (s.setFlags fl).mbc = s.mbc := rfl
@[simp] theorem State.setFlags_divider (fl : Flags) : (s.setFlags fl).divider = s.divider := rfl
@[simp] theorem State.setFlags_ppu (fl : Flags) : (s.setFlags fl).ppu = s.ppu := rfl
@[simp] theorem State.setFlags_apu (fl : Flags) : (s.setFlags fl).apu = s.apu := rfl
@[simp] theorem State.setFlags_pressed (fl : Flags) : (s.setFlags fl).pressed = s.pressed := rfl
@[simp] theorem State.setFlags_fault (fl : Flags) : (s.setFlags fl).fault = s.fault := rfl
@[simp] theorem State.setFlags_cycles (fl : Flags) : (s.setFlags fl).cycles = s.cycles := rfl
@[simp] theorem State.setFlags_launch (fl : Flags) : (s.setFlags fl).launch = s.launch := rfl
@[simp] theorem State.setFlags_out (fl : Flags) : (s.setFlags fl).out = s.out := rfl

/-! ## State.setIme -/
@[simp] theorem State.setIme_cpu_a (v : Ime) : (s.setIme v).cpu.a = s.cpu.a := rfl
@[simp] theorem State.setIme_cpu_f (v : Ime) : (s.setIme v).cpu.f = s.cpu.f := rfl
@[simp] theorem State.setIme_cpu_b (v : Ime) : (s.setIme v).cpu.b = s.cpu.b := rfl
@[simp] theorem State.setIme_cpu_c (v : Ime) : (s.setIme v).cpu.c = s.cpu.c := rfl
@[simp] theorem State.setIme_cpu_d (v : Ime) : (s.setIme v).cpu.d = s.cpu.d := rfl
@[simp] theorem State.setIme_cpu_e (v : Ime) : (s.setIme v).cpu.e = s.cpu.e := rfl
@[simp] theorem State.setIme_cpu_h (v : Ime) : (s.setIme v).cpu.h = s.cpu.h := rfl
@[simp] theorem State.setIme_cpu_l (v : Ime) : (s.setIme v).cpu.l = s.cpu.l := rfl
@[simp] theorem State.setIme_cpu_sp (v : Ime) : (s.setIme v).cpu.sp = s.cpu.sp := rfl
@[simp] theorem State.setIme_cpu_pc (v : Ime) : (s.setIme v).cpu.pc = s.cpu.pc := rfl
@[simp] theorem State.setIme_cpu_ime (v : Ime) : (s.setIme v).cpu.ime = v := rfl
@[simp] theorem State.setIme_cpu_halted (v : Ime) : (s.setIme v).cpu.halted = s.cpu.halted := rfl
@[simp] theorem State.setIme_mem (v : Ime) : (s.setIme v).mem = s.mem := rfl
@[simp] theorem State.setIme_cart (v : Ime) : (s.setIme v).cart = s.cart := rfl
@[simp] theorem State.setIme_mbc (v : Ime) : (s.setIme v).mbc = s.mbc := rfl
@[simp] theorem State.setIme_divider (v : Ime) : (s.setIme v).divider = s.divider := rfl
@[simp] theorem State.setIme_ppu (v : Ime) : (s.setIme v).ppu = s.ppu := rfl
@[simp] theorem State.setIme_apu (v : Ime) : (s.setIme v).apu = s.apu := rfl
@[simp] theorem State.setIme_pressed (v : Ime) : (s.setIme v).pressed = s.pressed := rfl
@[simp] theorem State.setIme_fault (v : Ime) : (s.setIme v).fault = s.fault := rfl
@[simp] theorem State.setIme_cycles (v : Ime) : (s.setIme v).cycles = s.cycles := rfl
@[simp] theorem State.setIme_launch (v : Ime) : (s.setIme v).launch = s.launch := rfl
@[simp] theorem State.setIme_out (v : Ime) : (s.setIme v).out = s.out := rfl

/-! ## State.setHalted -/
@[simp] theorem State.setHalted_cpu_a (v : Bool) : (s.setHalted v).cpu.a = s.cpu.a := rfl
@[simp] theorem State.setHalted_cpu_f (v : Bool) : (s.setHalted v).cpu.f = s.cpu.f := rfl
@[simp] theorem State.setHalted_cpu_b (v : Bool) : (s.setHalted v).cpu.b = s.cpu.b := rfl
@[simp] theorem State.setHalted_cpu_c (v : Bool) : (s.setHalted v).cpu.c = s.cpu.c := rfl
@[simp] theorem State.setHalted_cpu_d (v : Bool) : (s.setHalted v).cpu.d = s.cpu.d := rfl
@[simp] theorem State.setHalted_cpu_e (v : Bool) : (s.setHalted v).cpu.e = s.cpu.e := rfl
@[simp] theorem State.setHalted_cpu_h (v : Bool) : (s.setHalted v).cpu.h = s.cpu.h := rfl
@[simp] theorem State.setHalted_cpu_l (v : Bool) : (s.setHalted v).cpu.l = s.cpu.l := rfl
@[simp] theorem State.setHalted_cpu_sp (v : Bool) : (s.setHalted v).cpu.sp = s.cpu.sp := rfl
@[simp] theorem State.setHalted_cpu_pc (v : Bool) : (s.setHalted v).cpu.pc = s.cpu.pc := rfl
@[simp] theorem State.setHalted_cpu_ime (v : Bool) : (s.setHalted v).cpu.ime = s.cpu.ime := rfl
@[simp] theorem State.setHalted_cpu_halted (v : Bool) : (s.setHalted v).cpu.halted = v := rfl
@[simp] theorem State.setHalted_mem (v : Bool) : (s.setHalted v).mem = s.mem := rfl
@[simp] theorem State.setHalted_cart (v : Bool) : (s.setHalted v).cart = s.cart := rfl
@[simp] theorem State.setHalted_mbc (v : Bool) : (s.setHalted v).mbc = s.mbc := rfl
@[simp] theorem State.setHalted_divider (v : Bool) : (s.setHalted v).divider = s.divider := rfl
@[simp] theorem State.setHalted_ppu (v : Bool) : (s.setHalted v).ppu = s.ppu := rfl
@[simp] theorem State.setHalted_apu (v : Bool) : (s.setHalted v).apu = s.apu := rfl
@[simp] theorem State.setHalted_pressed (v : Bool) : (s.setHalted v).pressed = s.pressed := rfl
@[simp] theorem State.setHalted_fault (v : Bool) : (s.setHalted v).fault = s.fault := rfl
@[simp] theorem State.setHalted_cycles (v : Bool) : (s.setHalted v).cycles = s.cycles := rfl
@[simp] theorem State.setHalted_launch (v : Bool) : (s.setHalted v).launch = s.launch := rfl
@[simp] theorem State.setHalted_out (v : Bool) : (s.setHalted v).out = s.out := rfl

/-! ## State.charge -/
@[simp] theorem State.charge_cpu (n : Nat) : (s.charge n).cpu = s.cpu := rfl
@[simp] theorem State.charge_mem (n : Nat) : (s.charge n).mem = s.mem := rfl
@[simp] theorem State.charge_cart (n : Nat) : (s.charge n).cart = s.cart := rfl
@[simp] theorem State.charge_mbc (n : Nat) : (s.charge n).mbc = s.mbc := rfl
@[simp] theorem State.charge_divider (n : Nat) : (s.charge n).divider = s.divider := rfl
@[simp] theorem State.charge_ppu (n : Nat) : (s.charge n).ppu = s.ppu := rfl
@[simp] theorem State.charge_apu (n : Nat) : (s.charge n).apu = s.apu := rfl
@[simp] theorem State.charge_pressed (n : Nat) : (s.charge n).pressed = s.pressed := rfl
@[simp] theorem State.charge_fault (n : Nat) : (s.charge n).fault = s.fault := rfl
@[simp] theorem State.charge_cycles (n : Nat) : (s.charge n).cycles = n := rfl
@[simp] theorem State.charge_launch (n : Nat) : (s.charge n).launch = s.launch := rfl
@[simp] theorem State.charge_out (n : Nat) : (s.charge n).out = s.out := rfl

/-! ## State.store -/
@[simp] theorem State.store_cpu (st : Store) (o : Nat) (v : Byte) : (s.store st o v).cpu = s.cpu := rfl
@[simp] theorem State.store_mem (st : Store) (o : Nat) (v : Byte) : (s.store st o v).mem = s.mem.set st o v := rfl
@[simp] theorem State.store_cart (st : Store) (o : Nat) (v : Byte) : (s.store st o v).cart = s.cart := rfl
@[simp] theorem State.store_mbc (st : Store) (o : Nat) (v : Byte) : (s.store st o v).mbc = s.mbc := rfl
@[simp] theorem State.store_divider (st : Store) (o : Nat) (v : Byte) : (s.store st o v).divider = s.divider := rfl
@[simp] theorem State.store_ppu (st : Store) (o : Nat) (v : Byte) : (s.store st o v).ppu = s.ppu := rfl
@[simp] theorem State.store_apu (st : Store) (o : Nat) (v : Byte) : (s.store st o v).apu = s.apu := rfl
@[simp] theorem State.store_pressed (st : Store) (o : Nat) (v : Byte) : (s.store st o v).pressed = s.pressed := rfl
@[simp] theorem State.store_fault (st : Store) (o : Nat) (v : Byte) : (s.store st o v).fault = s.fault := rfl
@[simp] theorem State.store_cycles (st : Store) (o : Nat) (v : Byte) : (s.store st o v).cycles = s.cycles := rfl
@[simp] theorem State.store_launch (st : Store) (o : Nat) (v : Byte) : (s.store st o v).launch = s.launch := rfl
@[simp] theorem State.store_out (st : Store) (o : Nat) (v : Byte) : (s.store st o v).out = s.out := rfl

/-! ## State.setIo -/
@[simp] theorem State.setIo_cpu (a : Nat) (v : Byte) : (s.setIo a v).cpu = s.cpu := rfl
@[simp] theorem State.setIo_mem (a : Nat) (v : Byte) : (s.setIo a v).mem = s.mem.set .m a v := rfl
@[simp] theorem State.setIo_cart (a : Nat) (v : Byte) : (s.setIo a v).cart = s.cart := rfl
@[simp] theorem State.setIo_mbc (a : Nat) (v : Byte) : (s.setIo a v).mbc = s.mbc := rfl
@[simp] theorem State.setIo_divider (a : Nat) (v : Byte) : (s.setIo a v).divider = s.divider := rfl
@[simp] theorem State.setIo_ppu (a : Nat) (v : Byte) : (s.setIo a v).ppu = s.ppu := rfl
@[simp] theorem State.setIo_apu (a : Nat) (v : Byte) : (s.setIo a v).apu = s.apu := rfl
@[simp] theorem State.setIo_pressed (a : Nat) (v : Byte) : (s.setIo a v).pressed = s.pressed := rfl
@[simp] theorem State.setIo_fault (a : Nat) (v : Byte) : (s.setIo a v).fault = s.fault := rfl
@[simp] theorem State.setIo_cycles (a : Nat) (v : Byte) : (s.setIo a v).cycles = s.cycles := rfl
@[simp] theorem State.setIo_launch (a : Nat) (v : Byte) : (s.setIo a v).launch = s.launch := rfl
@[simp] theorem State.setIo_out (a : Nat) (v : Byte) : (s.setIo a v).out = s.out := rfl

/-! ## State.raiseUnknownOpcode -/
@[simp] theorem State.raiseUnknownOpcode_cpu (op : Byte) (addr : Word) : (s.raiseUnknownOpcode op addr).cpu = s.cpu := rfl
@[simp] theorem State.raiseUnknownOpcode_mem (op : Byte) (addr : Word) : (s.raiseUnknownOpcode op addr).mem = s.mem := rfl
@[simp] theorem State.raiseUnknownOpcode_cart (op : Byte) (addr : Word) : (s.raiseUnknownOpcode op addr).cart = s.cart := rfl
@[simp] theorem State.raiseUnknownOpcode_mbc (op : Byte) (addr : Word) : (s.raiseUnknownOpcode op addr).mbc = s.mbc := rfl
@[simp] theorem State.raiseUnknownOpcode_divider (op : Byte) (addr : Word) : (s.raiseUnknownOpcode op addr).divider = s.divider := rfl
@[simp] theorem State.raiseUnknownOpcode_ppu (op : Byte) (addr : Word) : (s.raiseUnknownOpcode op addr).ppu = s.ppu := rfl
@[simp] theorem State.raiseUnknownOpcode_apu (op : Byte) (addr : Word) : (s.raiseUnknownOpcode op addr).apu = s.apu := rfl
@[simp] theorem State.raiseUnknownOpcode_pressed (op : Byte) (addr : Word) : (s.raiseUnknownOpcode op addr).pressed = s.pressed := rfl
@[simp] theorem State.raiseUnknownOpcode_fault (op : Byte) (addr : Word) : (s.raiseUnknownOpcode op addr).fault = some { op := op, addr := addr } := rfl
@[simp] theorem State.raiseUnknownOpcode_cycles (op : Byte) (addr : Word) : (s.raiseUnknownOpcode op addr).cycles = 0 := rfl
@[simp] theorem State.raiseUnknownOpcode_launch (op : Byte) (addr : Word) : (s.raiseUnknownOpcode op addr).launch = s.launch := rfl
@[simp] theorem State.raiseUnknownOpcode_out (op : Byte) (addr : Word) : (s.raiseUnknownOpcode op addr).out = s.out := rfl

/-! ## State.setHl -/
@[simp] theorem State.setHl_cpu_a (v : Word) : (s.setHl v).cpu.a = s.cpu.a := rfl
@[simp] theorem State.setHl_cpu_f (v : Word) : (s.setHl v).cpu.f = s.cpu.f := rfl
@[simp] theorem State.setHl_cpu_b (v : Word) : (s.setHl v).cpu.b = s.cpu.b := rfl
@[simp] theorem State.setHl_cpu_c (v : Word) : (s.setHl v).cpu.c = s.cpu.c := rfl
@[simp] theorem State.setHl_cpu_d (v : Word) : (s.setHl v).cpu.d = s.cpu.d := rfl
@[simp] theorem State.setHl_cpu_e (v : Word) : (s.setHl v).cpu.e = s.cpu.e := rfl
@[simp] theorem State.setHl_cpu_h (v : Word) : (s.setHl v).cpu.h = hiByte v := rfl
@[simp] theorem State.setHl_cpu_l (v : Word) : (s.setHl v).cpu.l = loByte v := rfl
@[simp] theorem State.setHl_cpu_sp (v : Word) : (s.setHl v).cpu.sp = s.cpu.sp := rfl
@[simp] theorem State.setHl_cpu_pc (v : Word) : (s.setHl v).cpu.pc = s.cpu.pc := rfl
@[simp] theorem State.setHl_cpu_ime (v : Word) : (s.setHl v).cpu.ime = s.cpu.ime := rfl
@[simp] theorem State.setHl_cpu_halted (v : Word) : (s.setHl v).cpu.halted = s.cpu.halted := rfl
@[simp] theorem State.setHl_mem (v : Word) : (s.setHl v).mem = s.mem := rfl
@[simp] theorem State.setHl_cart (v : Word) : (s.setHl v).cart = s.cart := rfl
@[simp] theorem State.setHl_mbc (v : Word) : (s.setHl v).mbc = s.mbc := rfl
@[simp] theorem State.setHl_divider (v : Word) : (s.setHl v).divider = s.divider := rfl
@[simp] theorem State.setHl_ppu (v : Word) : (s.setHl v).ppu = s.ppu := rfl
@[simp] theorem State.setHl_apu (v : Word) : (s.setHl v).apu = s.apu := rfl
@[simp] theorem State.setHl_pressed (v : Word) : (s.setHl v).pressed = s.pressed := rfl
@[simp] theorem State.setHl_fault (v : Word) : (s.setHl v).fault = s.fault := rfl
@[simp] theorem State.setHl_cycles (v : Word) : (s.setHl v).cycles = s.cycles := rfl
@[simp] theorem State.setHl_launch (v : Word) : (s.setHl v).launch = s.launch := rfl
@[simp] theorem State.setHl_out (v : Word) : (s.setHl v).out = s.out := rfl

/-! ## State.setBc -/
@[simp] theorem State.setBc_cpu_a (v : Word) : (s.setBc v).cpu.a = s.cpu.a := rfl
@[simp] theorem State.setBc_cpu_f (v : Word) : (s.setBc v).cpu.f = s.cpu.f := rfl
@[simp] theorem State.setBc_cpu_b (v : Word) : (s.setBc v).cpu.b = hiByte v := rfl
@[simp] theorem State.setBc_cpu_c (v : Word) : (s.setBc v).cpu.c = loByte v := rfl
@[simp] theorem State.setBc_cpu_d (v : Word) : (s.setBc v).cpu.d = s.cpu.d := rfl
@[simp] theorem State.setBc_cpu_e (v : Word) : (s.setBc v).cpu.e = s.cpu.e := rfl
@[simp] theorem State.setBc_cpu_h (v : Word) : (s.setBc v).cpu.h = s.cpu.h := rfl
@[simp] theorem State.setBc_cpu_l (v : Word) : (s.setBc v).cpu.l = s.cpu.l := rfl
@[simp] theorem State.setBc_cpu_sp (v : Word) : (s.setBc v).cpu.sp = s.cpu.sp := rfl
@[simp] theorem State.setBc_cpu_pc (v : Word) : (s.setBc v).cpu.pc = s.cpu.pc := rfl
@[simp] theorem State.setBc_cpu_ime (v : Word) : (s.setBc v).cpu.ime = s.cpu.ime := rfl
@[simp] theorem State.setBc_cpu_halted (v : Word) : (s.setBc v).cpu.halted = s.cpu.halted := rfl
@[simp] theorem State.setBc_mem (v : Word) : (s.setBc v).mem = s.mem := rfl
@[simp] theorem State.setBc_cart (v : Word) : (s.setBc v).cart = s.cart := rfl
@[simp] theorem State.setBc_mbc (v : Word) : (s.setBc v).mbc = s.mbc := rfl
@[simp] theorem State.setBc_divider (v : Word) : (s.setBc v).divider = s.divider := rfl
@[simp] theorem State.setBc_ppu (v : Word) : (s.setBc v).ppu = s.ppu := rfl
@[simp] theorem State.setBc_apu (v : Word) : (s.setBc v).apu = s.apu := rfl
@[simp] theorem State.setBc_pressed (v : Word) : (s.setBc v).pressed = s.pressed := rfl
@[simp] theorem State.setBc_fault (v : Word) : (s.setBc v).fault = s.fault := rfl
@[simp] theorem State.setBc_cycles (v : Word) : (s.setBc v).cycles = s.cycles := rfl
@[simp] theorem State.setBc_launch (v : Word) : (s.setBc v).launch = s.launch := rfl
@[simp] theorem State.setBc_out (v : Word) : (s.setBc v).out = s.out := rfl

/-! ## State.setDe -/
@[simp] theorem State.setDe_cpu_a (v : Word) : (s.setDe v).cpu.a = s.cpu.a := rfl
@[simp] theorem State.setDe_cpu_f (v : Word) : (s.setDe v).cpu.f = s.cpu.f := rfl
@[simp] theorem State.setDe_cpu_b (v : Word) : (s.setDe v).cpu.b = s.cpu.b := rfl
@[simp] theorem State.setDe_cpu_c (v : Word) : (s.setDe v).cpu.c = s.cpu.c := rfl
@[simp] theorem State.setDe_cpu_d (v : Word) : (s.setDe v).cpu.d = hiByte v := rfl
@[simp] theorem State.setDe_cpu_e (v : Word) : (s.setDe v).cpu.e = loByte v := rfl
@[simp] theorem State.setDe_cpu_h (v : Word) : (s.setDe v).cpu.h = s.cpu.h := rfl
@[simp] theorem State.setDe_cpu_l (v : Word) : (s.setDe v).cpu.l = s.cpu.l := rfl
@[simp] theorem State.setDe_cpu_sp (v : Word) : (s.setDe v).cpu.sp = s.cpu.sp := rfl
@[simp] theorem State.setDe_cpu_pc (v : Word) : (s.setDe v).cpu.pc = s.cpu.pc := rfl
@[simp] theorem State.setDe_cpu_ime (v : Word) : (s.setDe v).cpu.ime = s.cpu.ime := rfl
@[simp] theorem State.setDe_cpu_halted (v : Word) : (s.setDe v).cpu.halted = s.cpu.halted := rfl
@[simp] theorem State.setDe_mem (v : Word) : (s.setDe v).mem = s.mem := rfl
@[simp] theorem State.setDe_cart (v : Word) : (s.setDe v).cart = s.cart := rfl
@[simp] theorem State.setDe_mbc (v : Word) : (s.setDe v).mbc = s.mbc := rfl
@[simp] theorem State.setDe_divider (v : Word) : (s.setDe v).divider = s.divider := rfl
@[simp] theorem State.setDe_ppu (v : Word) : (s.setDe v).ppu = s.ppu := rfl
@[simp] theorem State.setDe_apu (v : Word) : (s.setDe v).apu = s.apu := rfl
@[simp] theorem State.setDe_pressed (v : Word) : (s.setDe v).pressed = s.pressed := rfl
@[simp] theorem State.setDe_fault (v : Word) : (s.setDe v).fault = s.fault := rfl
@[simp] theorem State.setDe_cycles (v : Word) : (s.setDe v).cycles = s.cycles := rfl
@[simp] theorem State.setDe_launch (v : Word) : (s.setDe v).launch = s.launch := rfl
@[simp] theorem State.setDe_out (v : Word) : (s.setDe v).out = s.out := rfl

/-! ## State.setAf -/
@[simp] theorem State.setAf_cpu_a (v : Word) : (s.setAf v).cpu.a = hiByte v := rfl
@[simp] theorem State.setAf_cpu_f (v : Word) : (s.setAf v).cpu.f = loByte v &&& 0xF0 := rfl
@[simp] theorem State.setAf_cpu_b (v : Word) : (s.setAf v).cpu.b = s.cpu.b := rfl
@[simp] theorem State.setAf_cpu_c (v : Word) : (s.setAf v).cpu.c = s.cpu.c := rfl
@[simp] theorem State.setAf_cpu_d (v : Word) : (s.setAf v).cpu.d = s.cpu.d := rfl
@[simp] theorem State.setAf_cpu_e (v : Word) : (s.setAf v).cpu.e = s.cpu.e := rfl
@[simp] theorem State.setAf_cpu_h (v : Word) : (s.setAf v).cpu.h = s.cpu.h := rfl
@[simp] theorem State.setAf_cpu_l (v : Word) : (s.setAf v).cpu.l = s.cpu.l := rfl
@[simp] theorem State.setAf_cpu_sp (v : Word) : (s.setAf v).cpu.sp = s.cpu.sp := rfl
@[simp] theorem State.setAf_cpu_pc (v : Word) : (s.setAf v).cpu.pc = s.cpu.pc := rfl
@[simp] theorem State.setAf_cpu_ime (v : Word) : (s.setAf v).cpu.ime = s.cpu.ime := rfl
@[simp] theorem State.setAf_cpu_halted (v : Word) : (s.setAf v).cpu.halted = s.cpu.halted := rfl
@[simp] theorem State.setAf_mem (v : Word) : (s.setAf v).mem = s.mem := rfl
@[simp] theorem State.setAf_cart (v : Word) : (s.setAf v).cart = s.cart := rfl
@[simp] theorem State.setAf_mbc (v : Word) : (s.setAf v).mbc = s.mbc := rfl
@[simp] theorem State.setAf_divider (v : Word) : (s.setAf v).divider = s.divider := rfl
@[simp] theorem State.setAf_ppu (v : Word) : (s.setAf v).ppu = s.ppu := rfl
@[simp] theorem State.setAf_apu (v : Word) : (s.setAf v).apu = s.apu := rfl
@[simp] theorem State.setAf_pressed (v : Word) : (s.setAf v).pressed = s.pressed := rfl
@[simp] theorem State.setAf_fault (v : Word) : (s.setAf v).fault = s.fault := rfl
@[simp] theorem State.setAf_cycles (v : Word) : (s.setAf v).cycles = s.cycles := rfl
@[simp] theorem State.setAf_launch (v : Word) : (s.setAf v).launch = s.launch := rfl
@[simp] theorem State.setAf_out (v : Word) : (s.setAf v).out = s.out := rfl

/-! ## State.clearOutput -/
@[simp] theorem State.clearOutput_cpu : (s.clearOutput ).cpu = s.cpu := rfl
@[simp] theorem State.clearOutput_mem : (s.clearOutput).mem = s.mem := rfl
@[simp] theorem State.clearOutput_cart : (s.clearOutput).cart = s.cart := rfl
@[simp] theorem State.clearOutput_mbc : (s.clearOutput).mbc = s.mbc := rfl
@[simp] theorem State.clearOutput_divider : (s.clearOutput).divider = s.divider := rfl
@[simp] theorem State.clearOutput_ppu : (s.clearOutput).ppu = s.ppu := rfl
@[simp] theorem State.clearOutput_apu : (s.clearOutput).apu = s.apu := rfl
@[simp] theorem State.clearOutput_pressed : (s.clearOutput).pressed = s.pressed := rfl
@[simp] theorem State.clearOutput_fault : (s.clearOutput).fault = s.fault := rfl
@[simp] theorem State.clearOutput_cycles : (s.clearOutput).cycles = s.cycles := rfl
@[simp] theorem State.clearOutput_launch : (s.clearOutput).launch = s.launch := rfl
@[simp] theorem State.clearOutput_out : (s.clearOutput).out = { frame := none, audio := [] } := rfl

/-! ## State.setReg -/
@[simp] theorem State.setReg_cpu_f (r : Reg8) (v : Byte) : (s.setReg r v).cpu.f = s.cpu.f := by cases r <;> rfl
@[simp] theorem State.setReg_cpu_sp (r : Reg8) (v : Byte) : (s.setReg r v).cpu.sp = s.cpu.sp := by cases r <;> rfl
@[simp] theorem State.setReg_cpu_pc (r : Reg8) (v : Byte) : (s.setReg r v).cpu.pc = s.cpu.pc := by cases r <;> rfl
@[simp] theorem State.setReg_cpu_ime (r : Reg8) (v : Byte) : (s.setReg r v).cpu.ime = s.cpu.ime := by cases r <;> rfl
@[simp] theorem State.setReg_cpu_halted (r : Reg8) (v : Byte) : (s.setReg r v).cpu.halted = s.cpu.halted := by cases r <;> rfl
@[simp] theorem State.setReg_mem (r : Reg8) (v : Byte) : (s.setReg r v).mem = s.mem := by cases r <;> rfl
@[simp] theorem State.setReg_cart (r : Reg8) (v : Byte) : (s.setReg r v).cart = s.cart := by cases r <;> rfl
@[simp] theorem State.setReg_mbc (r : Reg8) (v : Byte) : (s.setReg r v).mbc = s.mbc := by cases r <;> rfl
@[simp] theorem State.setReg_divider (r : Reg8) (v : Byte) : (s.setReg r v).divider = s.divider := by cases r <;> rfl
@[simp] theorem State.setReg_ppu (r : Reg8) (v : Byte) : (s.setReg r v).ppu = s.ppu := by cases r <;> rfl
@[simp] theorem State.setReg_apu (r : Reg8) (v : Byte) : (s.setReg r v).apu = s.apu := by cases r <;> rfl
@[simp] theorem State.setReg_pressed (r : Reg8) (v : Byte) : (s.setReg r v).pressed = s.pressed := by cases r <;> rfl
@[simp] theorem State.setReg_fault (r : Reg8) (v : Byte) : (s.setReg r v).fault = s.fault := by cases r <;> rfl
@[simp] theorem State.setReg_cycles (r : Reg8) (v : Byte) : (s.setReg r v).cycles = s.cycles := by cases r <;> rfl
@[simp] theorem State.setReg_launch (r : Reg8) (v : Byte) : (s.setReg r v).launch = s.launch := by cases r <;> rfl
@[simp] theorem State.setReg_out (r : Reg8) (v : Byte) : (s.setReg r v).out = s.out := by cases r <;> rfl

@[simp] theorem State.setReg_reg_same (r : Reg8) (v : Byte) : (s.setReg r v).reg r = v := by cases r <;> rfl

theorem State.setReg_reg_other (dst r : Reg8) (v : Byte) (h : r ≠ dst) : (s.setReg dst v).reg r = s.reg r := by
  cases dst <;> cases r <;> first | rfl | exact absurd rfl h

end Sys2Proof.Machine
end

