-- ==== Sys2Proof/Laws/Devices.lean ====
section
/-! SUPPORT. What the device advances can do, said once: repetition, and the frame of each advance. No device touches the
CPU, and of the storage only TIMA and IF can change (R146). -/

namespace Sys2Proof.Machine

/-! ## Repetition -/

theorem iterate_add {α : Type} (f : α → α) (m n : Nat) (x : α) : iterate f (m + n) x = iterate f n (iterate f m x) := by
  induction m generalizing x with
  | zero => simp [iterate]
  | succ k ih =>
    rw [show k + 1 + n = (k + n) + 1 by omega]
    exact ih (f x)

theorem iterate_succ {α : Type} (f : α → α) (n : Nat) (x : α) : iterate f (n + 1) x = f (iterate f n x) := by
  rw [iterate_add f n 1 x]
  rfl

/-- What every single application keeps, the repetition keeps. -/
theorem iterate_keeps {α : Type} (f : α → α) (P : α → Prop) (hf : ∀ x, P x → P (f x)) (n : Nat) (x : α) (hx : P x) :
    P (iterate f n x) := by
  induction n generalizing x with
  | zero => exact hx
  | succ k ih => exact ih (f x) (hf x hx)

/-- A reflexive and transitive relation that one application respects, the repetition respects. -/
theorem iterate_rel {α : Type} (f : α → α) (R : α → α → Prop) (hrefl : ∀ x, R x x)
    (htrans : ∀ x y z, R x y → R y z → R x z) (hf : ∀ x, R x (f x)) (n : Nat) (x : α) : R x (iterate f n x) :=
  iterate_keeps f (R x) (fun y hy => htrans x y (f y) hy (hf y)) n x (hrefl x)

/-! ## The frame of the devices -/

/-- What a device advance leaves alone. -/
structure DeviceFrame (s t : State) : Prop where
  cpu : t.cpu = s.cpu
  cart : t.cart = s.cart
  mbc : t.mbc = s.mbc
  pressed : t.pressed = s.pressed
  fault : t.fault = s.fault
  cycles : t.cycles = s.cycles
  launch : t.launch = s.launch
  cells : ∀ st o, ¬ (st = .m ∧ (o = 0xFF05 ∨ o = 0xFF0F)) → t.mem.get st o = s.mem.get st o
  wf : s.mem.wf = true → t.mem.wf = true

theorem DeviceFrame.refl (s : State) : DeviceFrame s s :=
  ⟨rfl, rfl, rfl, rfl, rfl, rfl, rfl, fun _ _ _ => rfl, fun h => h⟩

theorem DeviceFrame.trans (s t u : State) (h : DeviceFrame s t) (h' : DeviceFrame t u) : DeviceFrame s u :=
  ⟨h'.cpu.trans h.cpu, h'.cart.trans h.cart, h'.mbc.trans h.mbc, h'.pressed.trans h.pressed, h'.fault.trans h.fault,
    h'.cycles.trans h.cycles, h'.launch.trans h.launch, fun st o hn => (h'.cells st o hn).trans (h.cells st o hn),
    fun hw => h'.wf (h.wf hw)⟩

theorem DeviceFrame.setIo (s : State) (a : Nat) (v : Byte) (ha : a = 0xFF05 ∨ a = 0xFF0F) :
    DeviceFrame s (s.setIo a v) :=
  ⟨rfl, rfl, rfl, rfl, rfl, rfl, rfl,
    fun st o hn => Memory.get_set_other _ _ _ _ _ _ (fun hh => hn ⟨hh.1.symm, by rw [← hh.2]; exact ha⟩),
    fun hw => Memory.wf_set _ _ _ _ hw⟩

theorem DeviceFrame.requestInterrupt (s : State) (k : Nat) : DeviceFrame s (s.requestInterrupt k) :=
  DeviceFrame.setIo s _ _ (Or.inr rfl)

/-- The stored bytes other than TIMA and IF. -/
theorem DeviceFrame.io {s t : State} (h : DeviceFrame s t) (a : Nat) (h1 : a ≠ 0xFF05) (h2 : a ≠ 0xFF0F) :
    t.io a = s.io a := h.cells .m a (fun hh => hh.2.elim h1 h2)

@[simp] theorem State.requestInterrupt_ppu (s : State) (k : Nat) : (s.requestInterrupt k).ppu = s.ppu := rfl
@[simp] theorem State.requestInterrupt_apu (s : State) (k : Nat) : (s.requestInterrupt k).apu = s.apu := rfl
@[simp] theorem State.requestInterrupt_out (s : State) (k : Nat) : (s.requestInterrupt k).out = s.out := rfl
@[simp] theorem State.requestInterrupt_divider (s : State) (k : Nat) : (s.requestInterrupt k).divider = s.divider := rfl
@[simp] theorem State.requestInterrupt_cpu (s : State) (k : Nat) : (s.requestInterrupt k).cpu = s.cpu := rfl
@[simp] theorem State.requestInterrupt_launch (s : State) (k : Nat) : (s.requestInterrupt k).launch = s.launch := rfl

/-- The stored byte just written. -/
theorem State.io_setIo (s : State) (a b : Nat) (v : Byte) : (s.setIo a v).io b = if a = b then v else s.io b := by
  unfold State.io
  rw [State.setIo_mem, Memory.get_set]
  simp

/-! ## The timer -/

/-- What the timer leaves alone besides the device frame. -/
structure TimerFrame (s t : State) : Prop extends DeviceFrame s t where
  ppu : t.ppu = s.ppu
  apu : t.apu = s.apu
  out : t.out = s.out

theorem TimerFrame.refl (s : State) : TimerFrame s s := ⟨DeviceFrame.refl s, rfl, rfl, rfl⟩

theorem TimerFrame.trans (s t u : State) (h : TimerFrame s t) (h' : TimerFrame t u) : TimerFrame s u :=
  ⟨DeviceFrame.trans s t u h.toDeviceFrame h'.toDeviceFrame, h'.ppu.trans h.ppu, h'.apu.trans h.apu, h'.out.trans h.out⟩

theorem TimerFrame.setIo (s : State) (a : Nat) (v : Byte) (ha : a = 0xFF05 ∨ a = 0xFF0F) : TimerFrame s (s.setIo a v) :=
  ⟨DeviceFrame.setIo s a v ha, rfl, rfl, rfl⟩

theorem State.timerCount_frame (s : State) : TimerFrame s s.timerCount := by
  unfold State.timerCount
  split
  · exact TimerFrame.trans _ _ _ (TimerFrame.setIo s 0xFF05 _ (Or.inl rfl))
      (TimerFrame.setIo _ 0xFF0F _ (Or.inr rfl))
  · exact TimerFrame.setIo s 0xFF05 _ (Or.inl rfl)

theorem State.timerTick_frame (s : State) : TimerFrame s s.timerTick := by
  have h : TimerFrame s { s with divider := s.divider + 1 } :=
    ⟨⟨rfl, rfl, rfl, rfl, rfl, rfl, rfl, fun _ _ _ => rfl, fun h => h⟩, rfl, rfl, rfl⟩
  unfold State.timerTick
  dsimp only
  split
  · exact TimerFrame.trans _ _ _ h (State.timerCount_frame _)
  · exact h

/-- The timer changes the divider, TIMA and IF, nothing else. -/
theorem State.timerAdvance_frame (s : State) (n : Nat) : TimerFrame s (s.timerAdvance n) :=
  iterate_rel _ TimerFrame TimerFrame.refl TimerFrame.trans State.timerTick_frame n s

/-! ## The PPU -/

/-- What the PPU leaves alone besides the device frame: it changes its own state, IF and the frame it hands out. -/
structure PpuFrame (s t : State) : Prop extends DeviceFrame s t where
  divider : t.divider = s.divider
  apu : t.apu = s.apu
  audio : t.out.audio = s.out.audio
  tima : t.io 0xFF05 = s.io 0xFF05

theorem PpuFrame.refl (s : State) : PpuFrame s s := ⟨DeviceFrame.refl s, rfl, rfl, rfl, rfl⟩

theorem PpuFrame.trans (s t u : State) (h : PpuFrame s t) (h' : PpuFrame t u) : PpuFrame s u :=
  ⟨DeviceFrame.trans s t u h.toDeviceFrame h'.toDeviceFrame, h'.divider.trans h.divider, h'.apu.trans h.apu,
    h'.audio.trans h.audio, h'.tima.trans h.tima⟩

theorem PpuFrame.requestInterrupt (s : State) (k : Nat) : PpuFrame s (s.requestInterrupt k) :=
  ⟨DeviceFrame.requestInterrupt s k, rfl, rfl, rfl, by
    unfold State.requestInterrupt
    rw [State.io_setIo, if_neg (by omega)]⟩

theorem PpuFrame.setPpu (s : State) (p : Ppu) : PpuFrame s { s with ppu := p } :=
  ⟨⟨rfl, rfl, rfl, rfl, rfl, rfl, rfl, fun _ _ _ => rfl, fun h => h⟩, rfl, rfl, rfl, rfl⟩

theorem State.modeInterrupt_frame (s : State) (m : PpuMode) : PpuFrame s (s.modeInterrupt m) := by
  unfold State.modeInterrupt
  split
  · split
    · exact PpuFrame.requestInterrupt s 1
    · exact PpuFrame.refl s
  · exact PpuFrame.refl s

theorem State.setMode_frame (s : State) (m : PpuMode) : PpuFrame s (s.setMode m) := by
  unfold State.setMode
  split
  · exact PpuFrame.refl s
  · exact PpuFrame.trans _ _ _ (PpuFrame.setPpu s _) (State.modeInterrupt_frame _ m)

theorem State.emitFrame_frame (s : State) : PpuFrame s s.emitFrame :=
  ⟨⟨rfl, rfl, rfl, rfl, rfl, rfl, rfl, fun _ _ _ => rfl, fun h => h⟩, rfl, rfl, rfl, rfl⟩

theorem State.enterVBlank_frame (s : State) : PpuFrame s s.enterVBlank := by
  unfold State.enterVBlank
  dsimp only
  refine PpuFrame.trans _ _ _ ?_ (State.emitFrame_frame _)
  split
  · exact PpuFrame.trans _ _ _ (State.setMode_frame s .vBlank) (PpuFrame.requestInterrupt _ 0)
  · exact State.setMode_frame s .vBlank

theorem State.nextLine_frame (s : State) : PpuFrame s s.nextLine := by
  unfold State.nextLine
  dsimp only
  split
  · exact PpuFrame.trans _ _ _ (PpuFrame.setPpu s _) (State.enterVBlank_frame _)
  · split
    · exact PpuFrame.trans _ _ _ (PpuFrame.setPpu s _) (State.setMode_frame _ _)
    · exact PpuFrame.setPpu s _

theorem State.ppuTick_frame (s : State) : PpuFrame s s.ppuTick := by
  unfold State.ppuTick
  dsimp only
  split
  · exact State.nextLine_frame s
  · split
    · exact PpuFrame.trans _ _ _ (PpuFrame.setPpu s _) (State.setMode_frame _ _)
    · split
      · exact PpuFrame.trans _ _ _ (PpuFrame.setPpu s _) (State.setMode_frame _ _)
      · exact PpuFrame.setPpu s _

theorem State.coincidenceCheck_frame (s : State) : PpuFrame s s.coincidenceCheck := by
  unfold State.coincidenceCheck
  dsimp only
  split
  · exact PpuFrame.trans _ _ _ (PpuFrame.requestInterrupt s 1) (PpuFrame.setPpu _ _)
  · exact PpuFrame.setPpu _ _

/-- The PPU changes its own state, IF and the frame it hands out, nothing else. -/
theorem State.ppuAdvance_frame (s : State) (n : Nat) : PpuFrame s (s.ppuAdvance n) :=
  PpuFrame.trans _ _ _ (iterate_rel _ PpuFrame PpuFrame.refl PpuFrame.trans State.ppuTick_frame n s)
    (State.coincidenceCheck_frame _)

/-! ## The APU -/

@[simp] theorem State.apuAdvance_cpu (s : State) (n : Nat) : (s.apuAdvance n).cpu = s.cpu := rfl
@[simp] theorem State.apuAdvance_mem (s : State) (n : Nat) : (s.apuAdvance n).mem = s.mem := rfl
@[simp] theorem State.apuAdvance_ppu (s : State) (n : Nat) : (s.apuAdvance n).ppu = s.ppu := rfl
@[simp] theorem State.apuAdvance_divider (s : State) (n : Nat) : (s.apuAdvance n).divider = s.divider := rfl

/-- The APU changes its own state and the batches it hands out, nothing else. -/
theorem State.apuAdvance_frame (s : State) (n : Nat) : DeviceFrame s (s.apuAdvance n) :=
  ⟨rfl, rfl, rfl, rfl, rfl, rfl, rfl, fun _ _ _ => rfl, fun h => h⟩

/-! ## The three advances of a step -/

/-- The machine after timer, PPU and APU of a step have advanced over its cycles, before interrupt service (R400). -/
theorem State.devices_frame (s : State) (n : Nat) :
    DeviceFrame s (((s.timerAdvance n).ppuAdvance n).apuAdvance n) :=
  DeviceFrame.trans _ _ _ (DeviceFrame.trans _ _ _ (s.timerAdvance_frame n).toDeviceFrame
    ((s.timerAdvance n).ppuAdvance_frame n).toDeviceFrame) (State.apuAdvance_frame _ n)

end Sys2Proof.Machine
end

