-- ==== Sys2Proof/Laws/Exec.lean ====
section
/-! SUPPORT. Every meaning by its shared operation: `exec_cover` reduces a claim about `exec` of any instruction to one
claim per shared operation, and the `exec_` equations say which operation an instruction of a family is. -/

namespace Sys2Proof.Machine

/-- `P` holds of the answer of every shared operation and of every meaning that stands by itself. -/
structure ExecCover (P : Result → Prop) (s : State) : Prop where
  loadRegReg : ∀ (dst r : Reg8), P (loadRegReg dst r s)
  loadRegImm : ∀ (dst : Reg8) (n8 : Byte), P (loadRegImm dst n8 s)
  loadRegAtHl : ∀ (dst : Reg8), P (loadRegAtHl dst s)
  storeAtHlReg : ∀ (r : Reg8), P (storeAtHlReg r s)
  loadA : ∀ (addr : Word) (n : Nat) (_ : n = 8 ∨ n = 12 ∨ n = 16), P (loadA addr n s)
  storeA : ∀ (addr : Word) (n : Nat) (_ : n = 8 ∨ n = 12 ∨ n = 16), P (storeA addr n s)
  loadAMoveHl : ∀ (delta : Word), P (loadAMoveHl delta s)
  storeAMoveHl : ∀ (delta : Word), P (storeAMoveHl delta s)
  loadPairImm : ∀ (p : Pair) (n16 : Word), P (loadPairImm p n16 s)
  pushPair : ∀ (p : StackPair), P (pushPair p s)
  popPair : ∀ (p : StackPair), P (popPair p s)
  aluWithReg : ∀ (op : AluOp) (r : Reg8), P (aluWithReg op r s)
  aluWithAtHl : ∀ (op : AluOp), P (aluWithAtHl op s)
  aluWithImm : ∀ (op : AluOp) (n8 : Byte), P (aluWithImm op n8 s)
  modifyReg : ∀ (f : Byte → Flags → Byte × Flags) (r : Reg8), P (modifyReg f r 4 s)
  modifyAtHl : ∀ (f : Byte → Flags → Byte × Flags), P (modifyAtHl f 12 s)
  modifyA : ∀ (f : Byte → Flags → Byte × Flags), P (modifyA f s)
  addHl : ∀ (p : Pair), P (addHl p s)
  movePair : ∀ (p : Pair) (delta : Word), P (movePair p delta s)
  rotateA : ∀ (op : RotOp), P (rotateA op s)
  rotateReg : ∀ (op : RotOp) (r : Reg8), P (rotateReg op r s)
  rotateAtHl : ∀ (op : RotOp), P (rotateAtHl op s)
  testReg : ∀ (b : Fin 8) (r : Reg8), P (testReg b r s)
  testAtHl : ∀ (b : Fin 8), P (testAtHl b s)
  resetReg : ∀ (b : Fin 8) (r : Reg8), P (resetReg b r s)
  resetAtHl : ∀ (b : Fin 8), P (resetAtHl b s)
  setBitReg : ∀ (b : Fin 8) (r : Reg8), P (setBitReg b r s)
  setBitAtHl : ∀ (b : Fin 8), P (setBitAtHl b s)
  jumpIf : ∀ (cc : Cond) (a16 : Word), P (jumpIf cc a16 s)
  jumpRelIf : ∀ (cc : Cond) (e8 : Byte), P (jumpRelIf cc e8 s)
  callIf : ∀ (cc : Cond) (a16 : Word), P (callIf cc a16 s)
  retIf : ∀ (cc : Cond), P (retIf cc s)
  restart : ∀ (target : Word), P (restart target s)
  ldAtA16Sp : ∀ (a16 : Word), P (execLdAtA16Sp a16 s)
  stop : ∀ (operand : Byte), P (execStop operand s)
  jrE8 : ∀ (e8 : Byte), P (execJrE8 e8 s)
  ldAtHlN8 : ∀ (n8 : Byte), P (execLdAtHlN8 n8 s)
  jpA16 : ∀ (a16 : Word), P (execJpA16 a16 s)
  callA16 : ∀ (a16 : Word), P (execCallA16 a16 s)
  illegal : ∀ (op : Byte), P (execIllegal op s)
  addSpE8 : ∀ (e8 : Byte), P (execAddSpE8 e8 s)
  ldHlSpE8 : ∀ (e8 : Byte), P (execLdHlSpE8 e8 s)
  nop : P (execNop s)
  halt : P (execHalt s)
  ret : P (execRet s)
  reti : P (execReti s)
  jpHl : P (execJpHl s)
  di : P (execDi s)
  ldSpHl : P (execLdSpHl s)
  ei : P (execEi s)

/-- The prefix byte runs the operation of its second byte (R314). -/
theorem ExecCover.prefixCb {P : Result → Prop} {s : State} (h : ExecCover P s) (op2 : Byte) :
    P (execPrefixCb op2 s) := by
  unfold execPrefixCb
  dsimp only
  split
  exacts [h.rotateReg _ _, h.rotateAtHl _, h.testReg _ _, h.testAtHl _, h.resetReg _ _, h.resetAtHl _, h.setBitReg _ _,
    h.setBitAtHl _]


/-- One claim per shared operation gives the claim for every instruction. -/
theorem exec_cover (P : Result → Prop) (s : State) (h : ExecCover P s) (i : Instr) : P (exec i s) := by
  cases i with
  | ldBcN16 _ => exact h.loadPairImm _ _
  | ldBN8 _ => exact h.loadRegImm _ _
  | ldAtA16Sp v => exact h.ldAtA16Sp v
  | ldCN8 _ => exact h.loadRegImm _ _
  | stop v => exact h.stop v
  | ldDeN16 _ => exact h.loadPairImm _ _
  | ldDN8 _ => exact h.loadRegImm _ _
  | jrE8 v => exact h.jrE8 v
  | ldEN8 _ => exact h.loadRegImm _ _
  | jrNzE8 _ => exact h.jumpRelIf _ _
  | ldHlN16 _ => exact h.loadPairImm _ _
  | ldHN8 _ => exact h.loadRegImm _ _
  | jrZE8 _ => exact h.jumpRelIf _ _
  | ldLN8 _ => exact h.loadRegImm _ _
  | jrNcE8 _ => exact h.jumpRelIf _ _
  | ldSpN16 _ => exact h.loadPairImm _ _
  | ldAtHlN8 v => exact h.ldAtHlN8 v
  | jrCE8 _ => exact h.jumpRelIf _ _
  | ldAN8 _ => exact h.loadRegImm _ _
  | jpNzA16 _ => exact h.jumpIf _ _
  | jpA16 v => exact h.jpA16 v
  | callNzA16 _ => exact h.callIf _ _
  | addAN8 _ => exact h.aluWithImm _ _
  | jpZA16 _ => exact h.jumpIf _ _
  | prefixCb v => exact h.prefixCb v
  | callZA16 _ => exact h.callIf _ _
  | callA16 v => exact h.callA16 v
  | adcAN8 _ => exact h.aluWithImm _ _
  | jpNcA16 _ => exact h.jumpIf _ _
  | illegal v => exact h.illegal v
  | callNcA16 _ => exact h.callIf _ _
  | subN8 _ => exact h.aluWithImm _ _
  | jpCA16 _ => exact h.jumpIf _ _
  | callCA16 _ => exact h.callIf _ _
  | sbcAN8 _ => exact h.aluWithImm _ _
  | ldhAtA8A _ => exact h.storeA _ _ (by decide)
  | andN8 _ => exact h.aluWithImm _ _
  | addSpE8 v => exact h.addSpE8 v
  | ldAtA16A _ => exact h.storeA _ _ (by decide)
  | xorN8 _ => exact h.aluWithImm _ _
  | ldhAAtA8 _ => exact h.loadA _ _ (by decide)
  | orN8 _ => exact h.aluWithImm _ _
  | ldHlSpE8 v => exact h.ldHlSpE8 v
  | ldAAtA16 _ => exact h.loadA _ _ (by decide)
  | cpN8 _ => exact h.aluWithImm _ _
  | nop => exact h.nop
  | ldAtBcA => exact h.storeA _ _ (by decide)
  | incBc => exact h.movePair _ _
  | incB => exact h.modifyReg _ _
  | decB => exact h.modifyReg _ _
  | rlca => exact h.rotateA _
  | addHlBc => exact h.addHl _
  | ldAAtBc => exact h.loadA _ _ (by decide)
  | decBc => exact h.movePair _ _
  | incC => exact h.modifyReg _ _
  | decC => exact h.modifyReg _ _
  | rrca => exact h.rotateA _
  | ldAtDeA => exact h.storeA _ _ (by decide)
  | incDe => exact h.movePair _ _
  | incD => exact h.modifyReg _ _
  | decD => exact h.modifyReg _ _
  | rla => exact h.rotateA _
  | addHlDe => exact h.addHl _
  | ldAAtDe => exact h.loadA _ _ (by decide)
  | decDe => exact h.movePair _ _
  | incE => exact h.modifyReg _ _
  | decE => exact h.modifyReg _ _
  | rra => exact h.rotateA _
  | ldAtHlIncA => exact h.storeAMoveHl _
  | incHl => exact h.movePair _ _
  | incH => exact h.modifyReg _ _
  | decH => exact h.modifyReg _ _
  | daa => exact h.modifyA daa8
  | addHlHl => exact h.addHl _
  | ldAAtHlInc => exact h.loadAMoveHl _
  | decHl => exact h.movePair _ _
  | incL => exact h.modifyReg _ _
  | decL => exact h.modifyReg _ _
  | cpl => exact h.modifyA (fun a old => (a ^^^ 0xFF, { old with n := true, h := true }))
  | ldAtHlDecA => exact h.storeAMoveHl _
  | incSp => exact h.movePair _ _
  | incAtHl => exact h.modifyAtHl _
  | decAtHl => exact h.modifyAtHl _
  | scf => exact h.modifyA (fun a old => (a, { old with n := false, h := false, c := true }))
  | addHlSp => exact h.addHl _
  | ldAAtHlDec => exact h.loadAMoveHl _
  | decSp => exact h.movePair _ _
  | incA => exact h.modifyReg _ _
  | decA => exact h.modifyReg _ _
  | ccf => exact h.modifyA (fun a old => (a, { old with n := false, h := false, c := !old.c }))
  | ldBB => exact h.loadRegReg _ _
  | ldBC => exact h.loadRegReg _ _
  | ldBD => exact h.loadRegReg _ _
  | ldBE => exact h.loadRegReg _ _
  | ldBH => exact h.loadRegReg _ _
  | ldBL => exact h.loadRegReg _ _
  | ldBAtHl => exact h.loadRegAtHl _
  | ldBA => exact h.loadRegReg _ _
  | ldCB => exact h.loadRegReg _ _
  | ldCC => exact h.loadRegReg _ _
  | ldCD => exact h.loadRegReg _ _
  | ldCE => exact h.loadRegReg _ _
  | ldCH => exact h.loadRegReg _ _
  | ldCL => exact h.loadRegReg _ _
  | ldCAtHl => exact h.loadRegAtHl _
  | ldCA => exact h.loadRegReg _ _
  | ldDB => exact h.loadRegReg _ _
  | ldDC => exact h.loadRegReg _ _
  | ldDD => exact h.loadRegReg _ _
  | ldDE => exact h.loadRegReg _ _
  | ldDH => exact h.loadRegReg _ _
  | ldDL => exact h.loadRegReg _ _
  | ldDAtHl => exact h.loadRegAtHl _
  | ldDA => exact h.loadRegReg _ _
  | ldEB => exact h.loadRegReg _ _
  | ldEC => exact h.loadRegReg _ _
  | ldED => exact h.loadRegReg _ _
  | ldEE => exact h.loadRegReg _ _
  | ldEH => exact h.loadRegReg _ _
  | ldEL => exact h.loadRegReg _ _
  | ldEAtHl => exact h.loadRegAtHl _
  | ldEA => exact h.loadRegReg _ _
  | ldHB => exact h.loadRegReg _ _
  | ldHC => exact h.loadRegReg _ _
  | ldHD => exact h.loadRegReg _ _
  | ldHE => exact h.loadRegReg _ _
  | ldHH => exact h.loadRegReg _ _
  | ldHL => exact h.loadRegReg _ _
  | ldHAtHl => exact h.loadRegAtHl _
  | ldHA => exact h.loadRegReg _ _
  | ldLB => exact h.loadRegReg _ _
  | ldLC => exact h.loadRegReg _ _
  | ldLD => exact h.loadRegReg _ _
  | ldLE => exact h.loadRegReg _ _
  | ldLH => exact h.loadRegReg _ _
  | ldLL => exact h.loadRegReg _ _
  | ldLAtHl => exact h.loadRegAtHl _
  | ldLA => exact h.loadRegReg _ _
  | ldAtHlB => exact h.storeAtHlReg _
  | ldAtHlC => exact h.storeAtHlReg _
  | ldAtHlD => exact h.storeAtHlReg _
  | ldAtHlE => exact h.storeAtHlReg _
  | ldAtHlH => exact h.storeAtHlReg _
  | ldAtHlL => exact h.storeAtHlReg _
  | halt => exact h.halt
  | ldAtHlA => exact h.storeAtHlReg _
  | ldAB => exact h.loadRegReg _ _
  | ldAC => exact h.loadRegReg _ _
  | ldAD => exact h.loadRegReg _ _
  | ldAE => exact h.loadRegReg _ _
  | ldAH => exact h.loadRegReg _ _
  | ldAL => exact h.loadRegReg _ _
  | ldAAtHl => exact h.loadRegAtHl _
  | ldAA => exact h.loadRegReg _ _
  | addAB => exact h.aluWithReg _ _
  | addAC => exact h.aluWithReg _ _
  | addAD => exact h.aluWithReg _ _
  | addAE => exact h.aluWithReg _ _
  | addAH => exact h.aluWithReg _ _
  | addAL => exact h.aluWithReg _ _
  | addAAtHl => exact h.aluWithAtHl _
  | addAA => exact h.aluWithReg _ _
  | adcAB => exact h.aluWithReg _ _
  | adcAC => exact h.aluWithReg _ _
  | adcAD => exact h.aluWithReg _ _
  | adcAE => exact h.aluWithReg _ _
  | adcAH => exact h.aluWithReg _ _
  | adcAL => exact h.aluWithReg _ _
  | adcAAtHl => exact h.aluWithAtHl _
  | adcAA => exact h.aluWithReg _ _
  | subB => exact h.aluWithReg _ _
  | subC => exact h.aluWithReg _ _
  | subD => exact h.aluWithReg _ _
  | subE => exact h.aluWithReg _ _
  | subH => exact h.aluWithReg _ _
  | subL => exact h.aluWithReg _ _
  | subAtHl => exact h.aluWithAtHl _
  | subA => exact h.aluWithReg _ _
  | sbcAB => exact h.aluWithReg _ _
  | sbcAC => exact h.aluWithReg _ _
  | sbcAD => exact h.aluWithReg _ _
  | sbcAE => exact h.aluWithReg _ _
  | sbcAH => exact h.aluWithReg _ _
  | sbcAL => exact h.aluWithReg _ _
  | sbcAAtHl => exact h.aluWithAtHl _
  | sbcAA => exact h.aluWithReg _ _
  | andB => exact h.aluWithReg _ _
  | andC => exact h.aluWithReg _ _
  | andD => exact h.aluWithReg _ _
  | andE => exact h.aluWithReg _ _
  | andH => exact h.aluWithReg _ _
  | andL => exact h.aluWithReg _ _
  | andAtHl => exact h.aluWithAtHl _
  | andA => exact h.aluWithReg _ _
  | xorB => exact h.aluWithReg _ _
  | xorC => exact h.aluWithReg _ _
  | xorD => exact h.aluWithReg _ _
  | xorE => exact h.aluWithReg _ _
  | xorH => exact h.aluWithReg _ _
  | xorL => exact h.aluWithReg _ _
  | xorAtHl => exact h.aluWithAtHl _
  | xorA => exact h.aluWithReg _ _
  | orB => exact h.aluWithReg _ _
  | orC => exact h.aluWithReg _ _
  | orD => exact h.aluWithReg _ _
  | orE => exact h.aluWithReg _ _
  | orH => exact h.aluWithReg _ _
  | orL => exact h.aluWithReg _ _
  | orAtHl => exact h.aluWithAtHl _
  | orA => exact h.aluWithReg _ _
  | cpB => exact h.aluWithReg _ _
  | cpC => exact h.aluWithReg _ _
  | cpD => exact h.aluWithReg _ _
  | cpE => exact h.aluWithReg _ _
  | cpH => exact h.aluWithReg _ _
  | cpL => exact h.aluWithReg _ _
  | cpAtHl => exact h.aluWithAtHl _
  | cpA => exact h.aluWithReg _ _
  | retNz => exact h.retIf _
  | popBc => exact h.popPair _
  | pushBc => exact h.pushPair _
  | rst00 => exact h.restart _
  | retZ => exact h.retIf _
  | ret => exact h.ret
  | rst08 => exact h.restart _
  | retNc => exact h.retIf _
  | popDe => exact h.popPair _
  | pushDe => exact h.pushPair _
  | rst10 => exact h.restart _
  | retC => exact h.retIf _
  | reti => exact h.reti
  | rst18 => exact h.restart _
  | popHl => exact h.popPair _
  | ldAtCA => exact h.storeA _ _ (by decide)
  | pushHl => exact h.pushPair _
  | rst20 => exact h.restart _
  | jpHl => exact h.jpHl
  | rst28 => exact h.restart _
  | popAf => exact h.popPair _
  | ldAAtC => exact h.loadA _ _ (by decide)
  | di => exact h.di
  | pushAf => exact h.pushPair _
  | rst30 => exact h.restart _
  | ldSpHl => exact h.ldSpHl
  | ei => exact h.ei
  | rst38 => exact h.restart _
  | rlcB => exact h.rotateReg _ _
  | rlcC => exact h.rotateReg _ _
  | rlcD => exact h.rotateReg _ _
  | rlcE => exact h.rotateReg _ _
  | rlcH => exact h.rotateReg _ _
  | rlcL => exact h.rotateReg _ _
  | rlcAtHl => exact h.rotateAtHl _
  | rlcA => exact h.rotateReg _ _
  | rrcB => exact h.rotateReg _ _
  | rrcC => exact h.rotateReg _ _
  | rrcD => exact h.rotateReg _ _
  | rrcE => exact h.rotateReg _ _
  | rrcH => exact h.rotateReg _ _
  | rrcL => exact h.rotateReg _ _
  | rrcAtHl => exact h.rotateAtHl _
  | rrcA => exact h.rotateReg _ _
  | rlB => exact h.rotateReg _ _
  | rlC => exact h.rotateReg _ _
  | rlD => exact h.rotateReg _ _
  | rlE => exact h.rotateReg _ _
  | rlH => exact h.rotateReg _ _
  | rlL => exact h.rotateReg _ _
  | rlAtHl => exact h.rotateAtHl _
  | rlA => exact h.rotateReg _ _
  | rrB => exact h.rotateReg _ _
  | rrC => exact h.rotateReg _ _
  | rrD => exact h.rotateReg _ _
  | rrE => exact h.rotateReg _ _
  | rrH => exact h.rotateReg _ _
  | rrL => exact h.rotateReg _ _
  | rrAtHl => exact h.rotateAtHl _
  | rrA => exact h.rotateReg _ _
  | slaB => exact h.rotateReg _ _
  | slaC => exact h.rotateReg _ _
  | slaD => exact h.rotateReg _ _
  | slaE => exact h.rotateReg _ _
  | slaH => exact h.rotateReg _ _
  | slaL => exact h.rotateReg _ _
  | slaAtHl => exact h.rotateAtHl _
  | slaA => exact h.rotateReg _ _
  | sraB => exact h.rotateReg _ _
  | sraC => exact h.rotateReg _ _
  | sraD => exact h.rotateReg _ _
  | sraE => exact h.rotateReg _ _
  | sraH => exact h.rotateReg _ _
  | sraL => exact h.rotateReg _ _
  | sraAtHl => exact h.rotateAtHl _
  | sraA => exact h.rotateReg _ _
  | swapB => exact h.rotateReg _ _
  | swapC => exact h.rotateReg _ _
  | swapD => exact h.rotateReg _ _
  | swapE => exact h.rotateReg _ _
  | swapH => exact h.rotateReg _ _
  | swapL => exact h.rotateReg _ _
  | swapAtHl => exact h.rotateAtHl _
  | swapA => exact h.rotateReg _ _
  | srlB => exact h.rotateReg _ _
  | srlC => exact h.rotateReg _ _
  | srlD => exact h.rotateReg _ _
  | srlE => exact h.rotateReg _ _
  | srlH => exact h.rotateReg _ _
  | srlL => exact h.rotateReg _ _
  | srlAtHl => exact h.rotateAtHl _
  | srlA => exact h.rotateReg _ _
  | bit0B => exact h.testReg _ _
  | bit0C => exact h.testReg _ _
  | bit0D => exact h.testReg _ _
  | bit0E => exact h.testReg _ _
  | bit0H => exact h.testReg _ _
  | bit0L => exact h.testReg _ _
  | bit0AtHl => exact h.testAtHl _
  | bit0A => exact h.testReg _ _
  | bit1B => exact h.testReg _ _
  | bit1C => exact h.testReg _ _
  | bit1D => exact h.testReg _ _
  | bit1E => exact h.testReg _ _
  | bit1H => exact h.testReg _ _
  | bit1L => exact h.testReg _ _
  | bit1AtHl => exact h.testAtHl _
  | bit1A => exact h.testReg _ _
  | bit2B => exact h.testReg _ _
  | bit2C => exact h.testReg _ _
  | bit2D => exact h.testReg _ _
  | bit2E => exact h.testReg _ _
  | bit2H => exact h.testReg _ _
  | bit2L => exact h.testReg _ _
  | bit2AtHl => exact h.testAtHl _
  | bit2A => exact h.testReg _ _
  | bit3B => exact h.testReg _ _
  | bit3C => exact h.testReg _ _
  | bit3D => exact h.testReg _ _
  | bit3E => exact h.testReg _ _
  | bit3H => exact h.testReg _ _
  | bit3L => exact h.testReg _ _
  | bit3AtHl => exact h.testAtHl _
  | bit3A => exact h.testReg _ _
  | bit4B => exact h.testReg _ _
  | bit4C => exact h.testReg _ _
  | bit4D => exact h.testReg _ _
  | bit4E => exact h.testReg _ _
  | bit4H => exact h.testReg _ _
  | bit4L => exact h.testReg _ _
  | bit4AtHl => exact h.testAtHl _
  | bit4A => exact h.testReg _ _
  | bit5B => exact h.testReg _ _
  | bit5C => exact h.testReg _ _
  | bit5D => exact h.testReg _ _
  | bit5E => exact h.testReg _ _
  | bit5H => exact h.testReg _ _
  | bit5L => exact h.testReg _ _
  | bit5AtHl => exact h.testAtHl _
  | bit5A => exact h.testReg _ _
  | bit6B => exact h.testReg _ _
  | bit6C => exact h.testReg _ _
  | bit6D => exact h.testReg _ _
  | bit6E => exact h.testReg _ _
  | bit6H => exact h.testReg _ _
  | bit6L => exact h.testReg _ _
  | bit6AtHl => exact h.testAtHl _
  | bit6A => exact h.testReg _ _
  | bit7B => exact h.testReg _ _
  | bit7C => exact h.testReg _ _
  | bit7D => exact h.testReg _ _
  | bit7E => exact h.testReg _ _
  | bit7H => exact h.testReg _ _
  | bit7L => exact h.testReg _ _
  | bit7AtHl => exact h.testAtHl _
  | bit7A => exact h.testReg _ _
  | res0B => exact h.resetReg _ _
  | res0C => exact h.resetReg _ _
  | res0D => exact h.resetReg _ _
  | res0E => exact h.resetReg _ _
  | res0H => exact h.resetReg _ _
  | res0L => exact h.resetReg _ _
  | res0AtHl => exact h.resetAtHl _
  | res0A => exact h.resetReg _ _
  | res1B => exact h.resetReg _ _
  | res1C => exact h.resetReg _ _
  | res1D => exact h.resetReg _ _
  | res1E => exact h.resetReg _ _
  | res1H => exact h.resetReg _ _
  | res1L => exact h.resetReg _ _
  | res1AtHl => exact h.resetAtHl _
  | res1A => exact h.resetReg _ _
  | res2B => exact h.resetReg _ _
  | res2C => exact h.resetReg _ _
  | res2D => exact h.resetReg _ _
  | res2E => exact h.resetReg _ _
  | res2H => exact h.resetReg _ _
  | res2L => exact h.resetReg _ _
  | res2AtHl => exact h.resetAtHl _
  | res2A => exact h.resetReg _ _
  | res3B => exact h.resetReg _ _
  | res3C => exact h.resetReg _ _
  | res3D => exact h.resetReg _ _
  | res3E => exact h.resetReg _ _
  | res3H => exact h.resetReg _ _
  | res3L => exact h.resetReg _ _
  | res3AtHl => exact h.resetAtHl _
  | res3A => exact h.resetReg _ _
  | res4B => exact h.resetReg _ _
  | res4C => exact h.resetReg _ _
  | res4D => exact h.resetReg _ _
  | res4E => exact h.resetReg _ _
  | res4H => exact h.resetReg _ _
  | res4L => exact h.resetReg _ _
  | res4AtHl => exact h.resetAtHl _
  | res4A => exact h.resetReg _ _
  | res5B => exact h.resetReg _ _
  | res5C => exact h.resetReg _ _
  | res5D => exact h.resetReg _ _
  | res5E => exact h.resetReg _ _
  | res5H => exact h.resetReg _ _
  | res5L => exact h.resetReg _ _
  | res5AtHl => exact h.resetAtHl _
  | res5A => exact h.resetReg _ _
  | res6B => exact h.resetReg _ _
  | res6C => exact h.resetReg _ _
  | res6D => exact h.resetReg _ _
  | res6E => exact h.resetReg _ _
  | res6H => exact h.resetReg _ _
  | res6L => exact h.resetReg _ _
  | res6AtHl => exact h.resetAtHl _
  | res6A => exact h.resetReg _ _
  | res7B => exact h.resetReg _ _
  | res7C => exact h.resetReg _ _
  | res7D => exact h.resetReg _ _
  | res7E => exact h.resetReg _ _
  | res7H => exact h.resetReg _ _
  | res7L => exact h.resetReg _ _
  | res7AtHl => exact h.resetAtHl _
  | res7A => exact h.resetReg _ _
  | set0B => exact h.setBitReg _ _
  | set0C => exact h.setBitReg _ _
  | set0D => exact h.setBitReg _ _
  | set0E => exact h.setBitReg _ _
  | set0H => exact h.setBitReg _ _
  | set0L => exact h.setBitReg _ _
  | set0AtHl => exact h.setBitAtHl _
  | set0A => exact h.setBitReg _ _
  | set1B => exact h.setBitReg _ _
  | set1C => exact h.setBitReg _ _
  | set1D => exact h.setBitReg _ _
  | set1E => exact h.setBitReg _ _
  | set1H => exact h.setBitReg _ _
  | set1L => exact h.setBitReg _ _
  | set1AtHl => exact h.setBitAtHl _
  | set1A => exact h.setBitReg _ _
  | set2B => exact h.setBitReg _ _
  | set2C => exact h.setBitReg _ _
  | set2D => exact h.setBitReg _ _
  | set2E => exact h.setBitReg _ _
  | set2H => exact h.setBitReg _ _
  | set2L => exact h.setBitReg _ _
  | set2AtHl => exact h.setBitAtHl _
  | set2A => exact h.setBitReg _ _
  | set3B => exact h.setBitReg _ _
  | set3C => exact h.setBitReg _ _
  | set3D => exact h.setBitReg _ _
  | set3E => exact h.setBitReg _ _
  | set3H => exact h.setBitReg _ _
  | set3L => exact h.setBitReg _ _
  | set3AtHl => exact h.setBitAtHl _
  | set3A => exact h.setBitReg _ _
  | set4B => exact h.setBitReg _ _
  | set4C => exact h.setBitReg _ _
  | set4D => exact h.setBitReg _ _
  | set4E => exact h.setBitReg _ _
  | set4H => exact h.setBitReg _ _
  | set4L => exact h.setBitReg _ _
  | set4AtHl => exact h.setBitAtHl _
  | set4A => exact h.setBitReg _ _
  | set5B => exact h.setBitReg _ _
  | set5C => exact h.setBitReg _ _
  | set5D => exact h.setBitReg _ _
  | set5E => exact h.setBitReg _ _
  | set5H => exact h.setBitReg _ _
  | set5L => exact h.setBitReg _ _
  | set5AtHl => exact h.setBitAtHl _
  | set5A => exact h.setBitReg _ _
  | set6B => exact h.setBitReg _ _
  | set6C => exact h.setBitReg _ _
  | set6D => exact h.setBitReg _ _
  | set6E => exact h.setBitReg _ _
  | set6H => exact h.setBitReg _ _
  | set6L => exact h.setBitReg _ _
  | set6AtHl => exact h.setBitAtHl _
  | set6A => exact h.setBitReg _ _
  | set7B => exact h.setBitReg _ _
  | set7C => exact h.setBitReg _ _
  | set7D => exact h.setBitReg _ _
  | set7E => exact h.setBitReg _ _
  | set7H => exact h.setBitReg _ _
  | set7L => exact h.setBitReg _ _
  | set7AtHl => exact h.setBitAtHl _
  | set7A => exact h.setBitReg _ _

/-! ## Families -/

theorem exec_ldRegReg (dst r : Reg8) (s : State) : exec (Instr.ldRegReg dst r) s = loadRegReg dst r s := by
  cases dst <;> cases r <;> rfl

theorem exec_ldRegN8 (dst : Reg8) (n8 : Byte) (s : State) : exec (Instr.ldRegN8 dst n8) s = loadRegImm dst n8 s := by
  cases dst <;> rfl

theorem exec_ldRegAtHl (dst : Reg8) (s : State) : exec (Instr.ldRegAtHl dst) s = loadRegAtHl dst s := by
  cases dst <;> rfl

theorem exec_ldAtHlReg (r : Reg8) (s : State) : exec (Instr.ldAtHlReg r) s = storeAtHlReg r s := by
  cases r <;> rfl

theorem exec_ldPairN16 (p : Pair) (n16 : Word) (s : State) : exec (Instr.ldPairN16 p n16) s = loadPairImm p n16 s := by
  cases p <;> rfl

theorem exec_push (p : StackPair) (s : State) : exec (Instr.push p) s = pushPair p s := by
  cases p <;> rfl

theorem exec_pop (p : StackPair) (s : State) : exec (Instr.pop p) s = popPair p s := by
  cases p <;> rfl

theorem exec_aluReg (op : AluOp) (r : Reg8) (s : State) : exec (Instr.aluReg op r) s = aluWithReg op r s := by
  cases op <;> cases r <;> rfl

theorem exec_aluAtHl (op : AluOp) (s : State) : exec (Instr.aluAtHl op) s = aluWithAtHl op s := by
  cases op <;> rfl

theorem exec_aluN8 (op : AluOp) (n8 : Byte) (s : State) : exec (Instr.aluN8 op n8) s = aluWithImm op n8 s := by
  cases op <;> rfl

theorem exec_incReg (r : Reg8) (s : State) : exec (Instr.incReg r) s = modifyReg inc8 r 4 s := by
  cases r <;> rfl

theorem exec_decReg (r : Reg8) (s : State) : exec (Instr.decReg r) s = modifyReg dec8 r 4 s := by
  cases r <;> rfl

theorem exec_incPair (p : Pair) (s : State) : exec (Instr.incPair p) s = movePair p 1 s := by
  cases p <;> rfl

theorem exec_decPair (p : Pair) (s : State) : exec (Instr.decPair p) s = movePair p (-1) s := by
  cases p <;> rfl

theorem exec_addHlPair (p : Pair) (s : State) : exec (Instr.addHlPair p) s = addHl p s := by
  cases p <;> rfl

theorem exec_jpCond (cc : Cond) (a16 : Word) (s : State) : exec (Instr.jpCond cc a16) s = jumpIf cc a16 s := by
  cases cc <;> rfl

theorem exec_jrCond (cc : Cond) (e8 : Byte) (s : State) : exec (Instr.jrCond cc e8) s = jumpRelIf cc e8 s := by
  cases cc <;> rfl

theorem exec_callCond (cc : Cond) (a16 : Word) (s : State) : exec (Instr.callCond cc a16) s = callIf cc a16 s := by
  cases cc <;> rfl

theorem exec_retCond (cc : Cond) (s : State) : exec (Instr.retCond cc) s = retIf cc s := by
  cases cc <;> rfl

theorem exec_rotReg (op : RotOp) (r : Reg8) (s : State) : exec (Instr.rotReg op r) s = rotateReg op r s := by
  cases op <;> cases r <;> rfl

theorem exec_rotAtHl (op : RotOp) (s : State) : exec (Instr.rotAtHl op) s = rotateAtHl op s := by
  cases op <;> rfl

theorem exec_bitReg (b : Fin 8) (r : Reg8) (s : State) : exec (Instr.bitReg b r) s = testReg b r s := by
  fin_cases b <;> cases r <;> rfl

theorem exec_bitAtHl (b : Fin 8) (s : State) : exec (Instr.bitAtHl b) s = testAtHl b s := by
  fin_cases b <;> rfl

theorem exec_resReg (b : Fin 8) (r : Reg8) (s : State) : exec (Instr.resReg b r) s = resetReg b r s := by
  fin_cases b <;> cases r <;> rfl

theorem exec_resAtHl (b : Fin 8) (s : State) : exec (Instr.resAtHl b) s = resetAtHl b s := by
  fin_cases b <;> rfl

theorem exec_setReg (b : Fin 8) (r : Reg8) (s : State) : exec (Instr.setReg b r) s = setBitReg b r s := by
  fin_cases b <;> cases r <;> rfl

theorem exec_setAtHl (b : Fin 8) (s : State) : exec (Instr.setAtHl b) s = setBitAtHl b s := by
  fin_cases b <;> rfl

theorem exec_rst (t : Fin 8) (s : State) : exec (Instr.rst t) s = restart (BitVec.ofNat 16 (8 * t.val)) s := by
  fin_cases t <;> rfl

end Sys2Proof.Machine
end

