-- ==== Sys2Proof/Laws/Ops.lean ====
section
/-! SUPPORT. What the shared bus and stack operations can do, said once: what a read depends on, the frame of a write, read
after write in plain storage, and the pushes and pops as two bus accesses. -/

namespace Sys2Proof.Machine

/-! ## Reads -/

/-- A read depends on the storage, the banking, and the four device values the bus shows. -/
theorem State.memRead_congr (s t : State) (hm : t.mem = s.mem) (hc : t.cart = s.cart) (hb : t.mbc = s.mbc)
    (hd : t.divider = s.divider) (hp : t.ppu = s.ppu) (hj : t.pressed = s.pressed) (a : Word) :
    t.memRead a = s.memRead a := by
  obtain ⟨tc, tm, tcart, tmbc, tdiv, tppu, tapu, tpr, tf, tcy, tl, tout⟩ := t
  subst hm hc hb hd hp hj
  rfl

@[simp] theorem State.memRead_withCpu (s : State) (c : Cpu) (n : Nat) (a : Word) :
    ({ s with cpu := c, cycles := n } : State).memRead a = s.memRead a := rfl

@[simp] theorem State.memRead_charge (s : State) (n : Nat) (a : Word) : (s.charge n).memRead a = s.memRead a := rfl
@[simp] theorem State.memRead_setPc (s : State) (v a : Word) : (s.setPc v).memRead a = s.memRead a := rfl
@[simp] theorem State.memRead_setSp (s : State) (v a : Word) : (s.setSp v).memRead a = s.memRead a := rfl
@[simp] theorem State.memRead_setIme (s : State) (v : Ime) (a : Word) : (s.setIme v).memRead a = s.memRead a := rfl
@[simp] theorem State.memRead_setHalted (s : State) (v : Bool) (a : Word) : (s.setHalted v).memRead a = s.memRead a := rfl
@[simp] theorem State.memRead_setA (s : State) (v : Byte) (a : Word) : (s.setA v).memRead a = s.memRead a := rfl
@[simp] theorem State.memRead_setF (s : State) (v : Byte) (a : Word) : (s.setF v).memRead a = s.memRead a := rfl
@[simp] theorem State.memRead_setFlags (s : State) (fl : Flags) (a : Word) : (s.setFlags fl).memRead a = s.memRead a := rfl
@[simp] theorem State.memRead_setHl (s : State) (v a : Word) : (s.setHl v).memRead a = s.memRead a := rfl
@[simp] theorem State.memRead_setReg (s : State) (r : Reg8) (v : Byte) (a : Word) :
    (s.setReg r v).memRead a = s.memRead a := by cases r <;> rfl

/-! ## The OAM DMA -/

theorem State.dmaFold_fields (page : Byte) (l : List Nat) (s : State) :
    l.foldl (State.dmaByte page) s = { s with mem := (l.foldl (State.dmaByte page) s).mem } := by
  induction l generalizing s with
  | nil => rfl
  | cons i rest ih =>
    simp only [List.foldl_cons]
    rw [ih]
    rfl

theorem State.dmaFold_other (page : Byte) (l : List Nat) (s : State) (st : Store) (o : Nat)
    (h : ∀ i, i ∈ l → ¬ (st = .m ∧ o = 0xFE00 + i)) :
    (l.foldl (State.dmaByte page) s).mem.get st o = s.mem.get st o := by
  induction l generalizing s with
  | nil => rfl
  | cons i rest ih =>
    simp only [List.foldl_cons]
    rw [ih _ (fun j hj => h j (List.mem_cons_of_mem _ hj))]
    have hi := h i List.mem_cons_self
    unfold State.dmaByte
    rw [State.setIo_mem]
    apply Memory.get_set_other
    rintro ⟨h1, h2⟩
    exact hi ⟨h1.symm, h2.symm⟩

theorem State.dmaFold_wf (page : Byte) (l : List Nat) (s : State) (h : s.mem.wf = true) :
    (l.foldl (State.dmaByte page) s).mem.wf = true := by
  induction l generalizing s with
  | nil => exact h
  | cons i rest ih =>
    simp only [List.foldl_cons]
    exact ih _ (Memory.wf_set _ _ _ _ h)

/-- A DMA changes nothing but the storage. -/
theorem State.oamDma_fields (s : State) (page : Byte) : s.oamDma page = { s with mem := (s.oamDma page).mem } :=
  State.dmaFold_fields page _ s

/-- A DMA changes no cell outside OAM. -/
theorem State.oamDma_other (s : State) (page : Byte) (st : Store) (o : Nat)
    (h : ¬ (st = .m ∧ 0xFE00 ≤ o ∧ o < 0xFEA0)) : (s.oamDma page).mem.get st o = s.mem.get st o := by
  apply State.dmaFold_other
  rintro i hi ⟨h1, h2⟩
  have := List.mem_range.mp hi
  exact h ⟨h1, by omega, by omega⟩

/-! ## Writes -/

/-- The control addresses of the cartridge (R131, R132). -/
theorem State.memWrite_rom (s : State) (addr : Word) (v : Byte) (h : addr.toNat < 0x8000) :
    s.memWrite addr v = s.mapperWrite addr.toNat v := by
  unfold State.memWrite
  exact if_pos h

/-- Video RAM (R123). -/
theorem State.memWrite_vram (s : State) (addr : Word) (v : Byte) (h0 : 0x8000 ≤ addr.toNat) (h : addr.toNat < 0xA000) :
    s.memWrite addr v = s.store (s.vramCell addr.toNat).1 (s.vramCell addr.toNat).2 v := by
  unfold State.memWrite
  dsimp only
  repeat rw [if_neg (by omega)]
  exact if_pos h

/-- External RAM (R122). -/
theorem State.memWrite_eram (s : State) (addr : Word) (v : Byte) (h0 : 0xA000 ≤ addr.toNat) (h : addr.toNat < 0xC000) :
    s.memWrite addr v = if s.eramReaches addr.toNat then s.store .eram (s.eramOffset addr.toNat) v else s := by
  unfold State.memWrite
  dsimp only
  repeat rw [if_neg (by omega)]
  exact if_pos h

/-- Switchable work RAM (R124). -/
theorem State.memWrite_wramx (s : State) (addr : Word) (v : Byte) (h0 : 0xD000 ≤ addr.toNat) (h : addr.toNat < 0xE000) :
    s.memWrite addr v = s.store .wramx (s.wramIndex addr.toNat) v := by
  unfold State.memWrite
  dsimp only
  repeat rw [if_neg (by omega)]
  exact if_pos h

/-- The addresses whose write is more than a plain store of `M` above 0xE000 (R108). -/
def SpecialWrite (a : Nat) : Prop :=
  a = 0xFF00 ∨ a = 0xFF04 ∨ (0xFF10 ≤ a ∧ a ≤ 0xFF26) ∨ a = 0xFF41 ∨ a = 0xFF44 ∨ a = 0xFF46 ∨ a = 0xFF69 ∨ a = 0xFF6B

/-- The chain of cases at and above 0xE000. -/
theorem State.memWrite_high (s : State) (addr : Word) (v : Byte) (h0 : 0xE000 ≤ addr.toNat) :
    s.memWrite addr v =
      if addr.toNat = 0xFF00 then s.setIo addr.toNat (v &&& 0x30)
      else if addr.toNat = 0xFF04 then { s with divider := 0 }
      else if 0xFF10 ≤ addr.toNat ∧ addr.toNat ≤ 0xFF26 then s.apuRegWrite addr.toNat v
      else if addr.toNat = 0xFF41 then s.setIo addr.toNat (v &&& 0xF8)
      else if addr.toNat = 0xFF44 then s
      else if addr.toNat = 0xFF46 then (s.setIo addr.toNat v).oamDma v
      else if addr.toNat = 0xFF69 then s.paletteWrite .bgpal 0xFF68 v
      else if addr.toNat = 0xFF6B then s.paletteWrite .objpal 0xFF6A v
      else s.setIo addr.toNat v := by
  unfold State.memWrite
  dsimp only
  repeat rw [if_neg (by omega)]

/-- Plain stores of `M`: work RAM bank 0, and everything above 0xE000 that has no side effect (R108, R130). -/
theorem State.memWrite_m (s : State) (addr : Word) (v : Byte)
    (h : (0xC000 ≤ addr.toNat ∧ addr.toNat < 0xD000) ∨ (0xE000 ≤ addr.toNat ∧ ¬ SpecialWrite addr.toNat)) :
    s.memWrite addr v = s.setIo addr.toNat v := by
  rcases h with h | ⟨h0, h⟩
  · unfold State.memWrite
    dsimp only
    repeat rw [if_neg (by omega)]
    exact if_pos h.2
  · rw [State.memWrite_high _ _ _ h0]
    simp only [SpecialWrite, not_or] at h
    obtain ⟨h1, h2, h3, h4, h5, h6, h7, h8⟩ := h
    rw [if_neg h1, if_neg h2, if_neg h3, if_neg h4, if_neg h5, if_neg h6, if_neg h7, if_neg h8]

theorem State.memWrite_p1 (s : State) (addr : Word) (v : Byte) (h : addr.toNat = 0xFF00) :
    s.memWrite addr v = s.setIo addr.toNat (v &&& 0x30) := by
  rw [State.memWrite_high _ _ _ (by omega)]
  simp [h]

theorem State.memWrite_div (s : State) (addr : Word) (v : Byte) (h : addr.toNat = 0xFF04) :
    s.memWrite addr v = { s with divider := 0 } := by
  rw [State.memWrite_high _ _ _ (by omega)]
  simp [h]

theorem State.memWrite_apu (s : State) (addr : Word) (v : Byte) (h : 0xFF10 ≤ addr.toNat ∧ addr.toNat ≤ 0xFF26) :
    s.memWrite addr v = s.apuRegWrite addr.toNat v := by
  rw [State.memWrite_high _ _ _ (by omega)]
  repeat rw [if_neg (by omega)]
  rw [if_pos h]

theorem State.memWrite_stat (s : State) (addr : Word) (v : Byte) (h : addr.toNat = 0xFF41) :
    s.memWrite addr v = s.setIo addr.toNat (v &&& 0xF8) := by
  rw [State.memWrite_high _ _ _ (by omega)]
  simp [h]

theorem State.memWrite_ly (s : State) (addr : Word) (v : Byte) (h : addr.toNat = 0xFF44) : s.memWrite addr v = s := by
  rw [State.memWrite_high _ _ _ (by omega)]
  simp [h]

theorem State.memWrite_dma (s : State) (addr : Word) (v : Byte) (h : addr.toNat = 0xFF46) :
    s.memWrite addr v = (s.setIo addr.toNat v).oamDma v := by
  rw [State.memWrite_high _ _ _ (by omega)]
  simp [h]

theorem State.memWrite_bcpd (s : State) (addr : Word) (v : Byte) (h : addr.toNat = 0xFF69) :
    s.memWrite addr v = s.paletteWrite .bgpal 0xFF68 v := by
  rw [State.memWrite_high _ _ _ (by omega)]
  simp [h]

theorem State.memWrite_ocpd (s : State) (addr : Word) (v : Byte) (h : addr.toNat = 0xFF6B) :
    s.memWrite addr v = s.paletteWrite .objpal 0xFF6A v := by
  rw [State.memWrite_high _ _ _ (by omega)]
  simp [h]

/-- Every address falls under one of the cases of R130. -/
theorem writeRegion (a : Nat) :
    a < 0x8000 ∨ (0x8000 ≤ a ∧ a < 0xA000) ∨ (0xA000 ≤ a ∧ a < 0xC000) ∨ (0xD000 ≤ a ∧ a < 0xE000) ∨
    a = 0xFF00 ∨ a = 0xFF04 ∨ (0xFF10 ≤ a ∧ a ≤ 0xFF26) ∨ a = 0xFF41 ∨ a = 0xFF44 ∨ a = 0xFF46 ∨ a = 0xFF69 ∨
    a = 0xFF6B ∨ ((0xC000 ≤ a ∧ a < 0xD000) ∨ (0xE000 ≤ a ∧ ¬ SpecialWrite a)) := by
  unfold SpecialWrite
  omega

theorem State.paletteWrite_withCpu (s : State) (c : Cpu) (n : Nat) (pal : Store) (idx : Nat) (v : Byte) :
    ({ s with cpu := c, cycles := n } : State).paletteWrite pal idx v =
      { s.paletteWrite pal idx v with cpu := c, cycles := n } := by
  show (if bit (s.io idx) 7 then _ else _) = { (if bit (s.io idx) 7 then _ else _ : State) with cpu := c, cycles := n }
  by_cases h : bit (s.io idx) 7 = true
  · simp only [if_pos h]
    rfl
  · simp only [if_neg h]
    rfl

theorem State.dmaFold_withCpu (page : Byte) (c : Cpu) (n : Nat) (l : List Nat) (s : State) :
    l.foldl (State.dmaByte page) ({ s with cpu := c, cycles := n } : State) =
      { l.foldl (State.dmaByte page) s with cpu := c, cycles := n } := by
  induction l generalizing s with
  | nil => rfl
  | cons i rest ih =>
    simp only [List.foldl_cons]
    exact ih (State.dmaByte page s i)

/-- A bus write does not look at the CPU registers or the cost. -/
theorem State.memWrite_withCpu (s : State) (c : Cpu) (n : Nat) (addr : Word) (v : Byte) :
    ({ s with cpu := c, cycles := n } : State).memWrite addr v = { s.memWrite addr v with cpu := c, cycles := n } := by
  rcases writeRegion addr.toNat with h | h | h | h | h | h | h | h | h | h | h | h | h
  · rw [State.memWrite_rom _ _ _ h, State.memWrite_rom _ _ _ h]
    unfold State.mapperWrite
    dsimp only
    cases s.cart.mapper <;> rfl
  · rw [State.memWrite_vram _ _ _ h.1 h.2, State.memWrite_vram _ _ _ h.1 h.2]; rfl
  · rw [State.memWrite_eram _ _ _ h.1 h.2, State.memWrite_eram _ _ _ h.1 h.2]
    show (if s.eramReaches addr.toNat then _ else _) =
      { (if s.eramReaches addr.toNat then _ else _ : State) with cpu := c, cycles := n }
    by_cases hr : s.eramReaches addr.toNat = true
    · simp only [if_pos hr]; rfl
    · simp only [if_neg hr]
  · rw [State.memWrite_wramx _ _ _ h.1 h.2, State.memWrite_wramx _ _ _ h.1 h.2]; rfl
  · rw [State.memWrite_p1 _ _ _ h, State.memWrite_p1 _ _ _ h]; rfl
  · rw [State.memWrite_div _ _ _ h, State.memWrite_div _ _ _ h]
  · rw [State.memWrite_apu _ _ _ h, State.memWrite_apu _ _ _ h]; rfl
  · rw [State.memWrite_stat _ _ _ h, State.memWrite_stat _ _ _ h]; rfl
  · rw [State.memWrite_ly _ _ _ h, State.memWrite_ly _ _ _ h]
  · rw [State.memWrite_dma _ _ _ h, State.memWrite_dma _ _ _ h]
    exact State.dmaFold_withCpu v c n _ (s.setIo addr.toNat v)
  · rw [State.memWrite_bcpd _ _ _ h, State.memWrite_bcpd _ _ _ h, State.paletteWrite_withCpu]
  · rw [State.memWrite_ocpd _ _ _ h, State.memWrite_ocpd _ _ _ h, State.paletteWrite_withCpu]
  · rw [State.memWrite_m _ _ _ h, State.memWrite_m _ _ _ h]; rfl

theorem State.paletteWrite_wf (s : State) (pal : Store) (idx : Nat) (v : Byte) (h : s.mem.wf = true) :
    (s.paletteWrite pal idx v).mem.wf = true := by
  unfold State.paletteWrite
  dsimp only
  split
  exacts [Memory.wf_set _ _ _ _ (Memory.wf_set _ _ _ _ h), Memory.wf_set _ _ _ _ h]

/-- A bus write keeps the canonical form of the storage. -/
theorem State.memWrite_wf (s : State) (addr : Word) (v : Byte) (hw : s.mem.wf = true) :
    (s.memWrite addr v).mem.wf = true := by
  rcases writeRegion addr.toNat with h | h | h | h | h | h | h | h | h | h | h | h | h
  · rw [State.memWrite_rom _ _ _ h]
    unfold State.mapperWrite
    split <;> exact hw
  · rw [State.memWrite_vram _ _ _ h.1 h.2]; exact Memory.wf_set _ _ _ _ hw
  · rw [State.memWrite_eram _ _ _ h.1 h.2]
    split
    exacts [Memory.wf_set _ _ _ _ hw, hw]
  · rw [State.memWrite_wramx _ _ _ h.1 h.2]; exact Memory.wf_set _ _ _ _ hw
  · rw [State.memWrite_p1 _ _ _ h]; exact Memory.wf_set _ _ _ _ hw
  · rw [State.memWrite_div _ _ _ h]; exact hw
  · rw [State.memWrite_apu _ _ _ h]; exact Memory.wf_set _ _ _ _ hw
  · rw [State.memWrite_stat _ _ _ h]; exact Memory.wf_set _ _ _ _ hw
  · rw [State.memWrite_ly _ _ _ h]; exact hw
  · rw [State.memWrite_dma _ _ _ h]; exact State.dmaFold_wf _ _ _ (Memory.wf_set _ _ _ _ hw)
  · rw [State.memWrite_bcpd _ _ _ h]; exact State.paletteWrite_wf _ _ _ _ hw
  · rw [State.memWrite_ocpd _ _ _ h]; exact State.paletteWrite_wf _ _ _ _ hw
  · rw [State.memWrite_m _ _ _ h]; exact Memory.wf_set _ _ _ _ hw

/-- A bus write never touches the CPU registers. -/
@[simp] theorem State.memWrite_cpu (s : State) (addr : Word) (v : Byte) : (s.memWrite addr v).cpu = s.cpu := by
  have h := State.memWrite_withCpu s s.cpu s.cycles addr v
  rw [show ({ s with cpu := s.cpu, cycles := s.cycles } : State) = s from rfl] at h
  rw [h]

/-- A bus write never touches the cost. -/
@[simp] theorem State.memWrite_cycles (s : State) (addr : Word) (v : Byte) : (s.memWrite addr v).cycles = s.cycles := by
  have h := State.memWrite_withCpu s s.cpu s.cycles addr v
  rw [show ({ s with cpu := s.cpu, cycles := s.cycles } : State) = s from rfl] at h
  rw [h]

theorem WriteFrame.of_store (s : State) (addr : Word) (st : Store) (o : Nat) (v : Byte)
    (h : (st, o) ∈ s.writeCells addr) : WriteFrame s addr (s.store st o v) where
  cart := rfl
  ppu := rfl
  pressed := rfl
  fault := rfl
  launch := rfl
  out := rfl
  mbc _ := rfl
  divider _ := rfl
  apu _ := rfl
  cells st' o' h' := by
    rw [State.store_mem]
    apply Memory.get_set_other
    rintro ⟨h1, h2⟩
    subst h1 h2
    exact h' h

theorem WriteFrame.refl (s : State) (addr : Word) : WriteFrame s addr s where
  cart := rfl
  ppu := rfl
  pressed := rfl
  fault := rfl
  launch := rfl
  out := rfl
  mbc _ := rfl
  divider _ := rfl
  apu _ := rfl
  cells _ _ _ := rfl

theorem WriteFrame.paletteWrite (s : State) (addr : Word) (pal : Store) (idx : Nat) (v : Byte)
    (hc : s.writeCells addr = [(pal, s.paletteIndex idx), (.m, idx)]) :
    WriteFrame s addr (s.paletteWrite pal idx v) := by
  unfold State.paletteWrite
  simp only []
  split
  · exact
      { cart := rfl, ppu := rfl, pressed := rfl, fault := rfl, launch := rfl, out := rfl, mbc := fun _ => rfl,
        divider := fun _ => rfl, apu := fun _ => rfl,
        cells := fun st o h => by
          rw [hc] at h
          simp only [List.mem_cons, Prod.mk.injEq, List.not_mem_nil, or_false, not_or] at h
          rw [State.setIo_mem, Memory.get_set_other _ _ _ _ _ _ (fun hh => h.2 ⟨hh.1.symm, hh.2.symm⟩), State.store_mem,
            Memory.get_set_other _ _ _ _ _ _ (fun hh => h.1 ⟨hh.1.symm, hh.2.symm⟩)] }
  · exact WriteFrame.of_store s addr pal _ v (by rw [hc]; exact List.mem_cons_self)

/-- The footprint of a plain store of `M`. -/
theorem State.writeCells_m (s : State) (addr : Word)
    (h : (0xC000 ≤ addr.toNat ∧ addr.toNat < 0xD000) ∨
      (0xE000 ≤ addr.toNat ∧ addr.toNat ≠ 0xFF04 ∧ addr.toNat ≠ 0xFF44 ∧ addr.toNat ≠ 0xFF46 ∧ addr.toNat ≠ 0xFF69 ∧
        addr.toNat ≠ 0xFF6B)) : s.writeCells addr = [(.m, addr.toNat)] := by
  unfold State.writeCells
  rcases h with h | ⟨h0, h1, h2, h3, h4, h5⟩
  · dsimp only
    repeat rw [if_neg (by omega)]
    exact if_pos h.2
  · dsimp only
    repeat rw [if_neg (by omega)]

/-- The frame of every bus write. -/
theorem State.memWrite_frame (s : State) (addr : Word) (v : Byte) : WriteFrame s addr (s.memWrite addr v) := by
  rcases writeRegion addr.toNat with h | h | h | h | h | h | h | h | h | h | h | h | h
  · rw [State.memWrite_rom _ _ _ h]
    unfold State.mapperWrite
    split
    · exact WriteFrame.refl _ _
    · exact
        { cart := rfl, ppu := rfl, pressed := rfl, fault := rfl, launch := rfl, out := rfl,
          mbc := fun h' => absurd h (by omega), divider := fun _ => rfl, apu := fun _ => rfl, cells := fun _ _ _ => rfl }
  · rw [State.memWrite_vram _ _ _ h.1 h.2]
    have hw : s.writeCells addr = [s.vramCell addr.toNat] := by
      unfold State.writeCells
      dsimp only
      repeat rw [if_neg (by omega)]
      exact if_pos h.2
    exact WriteFrame.of_store _ _ _ _ _ (by rw [hw]; exact List.mem_cons_self)
  · rw [State.memWrite_eram _ _ _ h.1 h.2]
    split
    · rename_i hr
      have hw : s.writeCells addr = [(.eram, s.eramOffset addr.toNat)] := by
        unfold State.writeCells
        dsimp only
        repeat rw [if_neg (by omega)]
        exact (if_pos h.2).trans (if_pos hr)
      exact WriteFrame.of_store _ _ _ _ _ (by rw [hw]; exact List.mem_cons_self)
    · exact WriteFrame.refl _ _
  · rw [State.memWrite_wramx _ _ _ h.1 h.2]
    have hw : s.writeCells addr = [(.wramx, s.wramIndex addr.toNat)] := by
      unfold State.writeCells
      dsimp only
      repeat rw [if_neg (by omega)]
      exact if_pos h.2
    exact WriteFrame.of_store _ _ _ _ _ (by rw [hw]; exact List.mem_cons_self)
  · rw [State.memWrite_p1 _ _ _ h]
    exact WriteFrame.of_store _ _ _ _ _ (by rw [State.writeCells_m _ _ (by omega)]; exact List.mem_cons_self)
  · rw [State.memWrite_div _ _ _ h]
    exact
      { cart := rfl, ppu := rfl, pressed := rfl, fault := rfl, launch := rfl, out := rfl, mbc := fun _ => rfl,
        divider := fun h' => absurd h h', apu := fun _ => rfl, cells := fun _ _ _ => rfl }
  · rw [State.memWrite_apu _ _ _ h]
    have hs := WriteFrame.of_store s addr .m addr.toNat v
      (by rw [State.writeCells_m _ _ (by omega)]; exact List.mem_cons_self)
    exact
      { cart := rfl, ppu := rfl, pressed := rfl, fault := rfl, launch := rfl, out := rfl, mbc := fun _ => rfl,
        divider := fun _ => rfl, apu := fun h' => by omega, cells := hs.cells }
  · rw [State.memWrite_stat _ _ _ h]
    exact WriteFrame.of_store _ _ _ _ _ (by rw [State.writeCells_m _ _ (by omega)]; exact List.mem_cons_self)
  · rw [State.memWrite_ly _ _ _ h]
    exact WriteFrame.refl _ _
  · rw [State.memWrite_dma _ _ _ h]
    have hf := State.oamDma_fields (s.setIo addr.toNat v) v
    have hw : s.writeCells addr = (.m, addr.toNat) :: (List.range 160).map (fun i => (Store.m, 0xFE00 + i)) := by
      unfold State.writeCells
      dsimp only
      repeat rw [if_neg (by omega)]
      exact if_pos h
    exact
      { cart := by rw [hf]; rfl, ppu := by rw [hf]; rfl, pressed := by rw [hf]; rfl, fault := by rw [hf]; rfl,
        launch := by rw [hf]; rfl, out := by rw [hf]; rfl, mbc := fun _ => by rw [hf]; rfl,
        divider := fun _ => by rw [hf]; rfl, apu := fun _ => by rw [hf]; rfl,
        cells := fun st o hn => by
          rw [hw] at hn
          simp only [List.mem_cons, List.mem_map, List.mem_range, Prod.mk.injEq, not_or, not_exists, not_and] at hn
          rw [State.oamDma_other, State.setIo_mem, Memory.get_set_other]
          · rintro ⟨h1, h2⟩
            exact hn.1 h1.symm h2.symm
          · rintro ⟨h1, h2, h3⟩
            exact hn.2 (o - 0xFE00) (by omega) h1.symm (by omega) }
  · rw [State.memWrite_bcpd _ _ _ h]
    refine WriteFrame.paletteWrite _ _ _ _ _ ?_
    unfold State.writeCells
    dsimp only
    repeat rw [if_neg (by omega)]
    exact if_pos h
  · rw [State.memWrite_ocpd _ _ _ h]
    refine WriteFrame.paletteWrite _ _ _ _ _ ?_
    unfold State.writeCells
    dsimp only
    repeat rw [if_neg (by omega)]
    exact if_pos h
  · rw [State.memWrite_m _ _ _ h]
    refine WriteFrame.of_store _ _ _ _ _ ?_
    rw [State.writeCells_m]
    · exact List.mem_cons_self
    · unfold SpecialWrite at h
      omega

/-! ## Reads by region (R120) -/

theorem State.memRead_rom (s : State) (a : Word) (h : a.toNat < 0x8000) : s.memRead a = s.romRead a.toNat := by
  unfold State.memRead
  exact if_pos h

theorem State.memRead_vram (s : State) (a : Word) (h0 : 0x8000 ≤ a.toNat) (h : a.toNat < 0xA000) :
    s.memRead a = s.mem.get (s.vramCell a.toNat).1 (s.vramCell a.toNat).2 := by
  unfold State.memRead
  dsimp only
  repeat rw [if_neg (by omega)]
  exact if_pos h

theorem State.memRead_eram (s : State) (a : Word) (h0 : 0xA000 ≤ a.toNat) (h : a.toNat < 0xC000) :
    s.memRead a = if s.eramReaches a.toNat then s.mem.get .eram (s.eramOffset a.toNat) else 0xFF := by
  unfold State.memRead
  dsimp only
  repeat rw [if_neg (by omega)]
  exact if_pos h

theorem State.memRead_wramx (s : State) (a : Word) (h0 : 0xD000 ≤ a.toNat) (h : a.toNat < 0xE000) :
    s.memRead a = s.mem.get .wramx (s.wramIndex a.toNat) := by
  unfold State.memRead
  dsimp only
  repeat rw [if_neg (by omega)]
  exact if_pos h

/-- The chain of cases at and above 0xE000. -/
theorem State.memRead_high (s : State) (a : Word) (h0 : 0xE000 ≤ a.toNat) :
    s.memRead a =
      if a.toNat = 0xFF00 then s.joypadRead
      else if a.toNat = 0xFF04 then hiByte s.divider
      else if a.toNat = 0xFF41 then s.statRead
      else if a.toNat = 0xFF44 then BitVec.ofNat 8 s.ppu.ly
      else if a.toNat = 0xFF69 then s.mem.get .bgpal (s.paletteIndex 0xFF68)
      else if a.toNat = 0xFF6B then s.mem.get .objpal (s.paletteIndex 0xFF6A)
      else s.io a.toNat := by
  unfold State.memRead
  dsimp only
  repeat rw [if_neg (by omega)]

/-- The addresses whose read is not the stored byte (R125). -/
def SpecialRead (a : Nat) : Prop :=
  a = 0xFF00 ∨ a = 0xFF04 ∨ a = 0xFF41 ∨ a = 0xFF44 ∨ a = 0xFF69 ∨ a = 0xFF6B

/-- Plain reads of `M` (R120, R125). -/
theorem State.memRead_m (s : State) (a : Word)
    (h : (0xC000 ≤ a.toNat ∧ a.toNat < 0xD000) ∨ (0xE000 ≤ a.toNat ∧ ¬ SpecialRead a.toNat)) :
    s.memRead a = s.io a.toNat := by
  rcases h with h | ⟨h0, h⟩
  · unfold State.memRead
    dsimp only
    repeat rw [if_neg (by omega)]
    exact if_pos h.2
  · rw [State.memRead_high _ _ h0]
    simp only [SpecialRead, not_or] at h
    obtain ⟨h1, h2, h3, h4, h5, h6⟩ := h
    rw [if_neg h1, if_neg h2, if_neg h3, if_neg h4, if_neg h5, if_neg h6]

/-! ## Read after write in plain storage (R141) -/

/-- The cell behind an address of plain storage. -/
def State.plainCell (s : State) (a : Nat) : Store × Nat :=
  if a < 0xA000 then s.vramCell a
  else if a < 0xC000 then (.eram, s.eramOffset a)
  else if a < 0xD000 then (.m, a)
  else if a < 0xE000 then (.wramx, s.wramIndex a)
  else (.m, a)

theorem State.plainCell_vram (s : State) (a : Nat) (h : a < 0xA000) : s.plainCell a = s.vramCell a := if_pos h

theorem State.plainCell_eram (s : State) (a : Nat) (h0 : 0xA000 ≤ a) (h : a < 0xC000) :
    s.plainCell a = (.eram, s.eramOffset a) := by
  simp [State.plainCell, Nat.not_lt.mpr h0, h]

theorem State.plainCell_wramx (s : State) (a : Nat) (h0 : 0xD000 ≤ a) (h : a < 0xE000) :
    s.plainCell a = (.wramx, s.wramIndex a) := by
  simp [State.plainCell, Nat.not_lt.mpr h0, h, show ¬ a < 0xA000 by omega, show ¬ a < 0xC000 by omega]

theorem State.plainCell_m (s : State) (a : Nat) (h : (0xC000 ≤ a ∧ a < 0xD000) ∨ 0xE000 ≤ a) :
    s.plainCell a = (.m, a) := by
  simp only [State.plainCell, show ¬ a < 0xA000 by omega, show ¬ a < 0xC000 by omega, if_false]
  split_ifs
  exacts [rfl, by omega, rfl]

theorem State.plainAt_cases (s : State) (addr : Word) (h : s.plainAt addr = true) :
    (0x8000 ≤ addr.toNat ∧ addr.toNat < 0xA000) ∨
    (0xA000 ≤ addr.toNat ∧ addr.toNat < 0xC000 ∧ s.eramReaches addr.toNat = true) ∨
    (0xD000 ≤ addr.toNat ∧ addr.toNat < 0xE000) ∨
    ((0xC000 ≤ addr.toNat ∧ addr.toNat < 0xD000) ∨
      (0xE000 ≤ addr.toNat ∧ (addr.toNat < 0xFF00 ∨ 0xFF80 ≤ addr.toNat))) := by
  unfold State.plainAt at h
  simp only [Bool.and_eq_true, Bool.or_eq_true, decide_eq_true_eq] at h
  obtain ⟨⟨h1, h2⟩, h3⟩ := h
  rcases h2 with (h2 | h2) | h2
  · omega
  · omega
  · by_cases hr : addr.toNat < 0xA000
    · omega
    · by_cases hr' : addr.toNat < 0xC000
      · exact Or.inr (Or.inl ⟨by omega, hr', h2⟩)
      · omega

theorem State.memWrite_plain (s : State) (addr : Word) (v : Byte) (h : s.plainAt addr = true) :
    s.memWrite addr v = s.store (s.plainCell addr.toNat).1 (s.plainCell addr.toNat).2 v := by
  rcases s.plainAt_cases addr h with h | h | h | h
  · rw [State.memWrite_vram _ _ _ h.1 h.2, State.plainCell_vram _ _ h.2]
  · rw [State.memWrite_eram _ _ _ h.1 h.2.1, if_pos h.2.2, State.plainCell_eram _ _ h.1 h.2.1]
  · rw [State.memWrite_wramx _ _ _ h.1 h.2, State.plainCell_wramx _ _ h.1 h.2]
  · rw [State.memWrite_m, State.plainCell_m _ _ (by omega)]
    · rfl
    · unfold SpecialWrite
      omega

theorem State.memRead_plain (s : State) (addr : Word) (h : s.plainAt addr = true) :
    s.memRead addr = s.mem.get (s.plainCell addr.toNat).1 (s.plainCell addr.toNat).2 := by
  rcases s.plainAt_cases addr h with h | h | h | h
  · rw [State.memRead_vram _ _ h.1 h.2, State.plainCell_vram _ _ h.2]
  · rw [State.memRead_eram _ _ h.1 h.2.1, if_pos h.2.2, State.plainCell_eram _ _ h.1 h.2.1]
  · rw [State.memRead_wramx _ _ h.1 h.2, State.plainCell_wramx _ _ h.1 h.2]
  · rw [State.memRead_m, State.plainCell_m _ _ (by omega)]
    · rfl
    · unfold SpecialRead
      omega

/-- A store that touches no I/O register byte and no ROM leaves every read alone whose cell it does not hit. -/
theorem State.memRead_store (s : State) (st : Store) (o : Nat) (v : Byte) (a : Word)
    (hio : ∀ k, 0xFF00 ≤ k → k < 0xFF80 → ¬ (st = .m ∧ o = k)) (hrom : st ≠ .rom) (hbg : st ≠ .bgpal)
    (hobj : st ≠ .objpal)
    (hcell : s.plainAt a = true → ¬ (st = (s.plainCell a.toNat).1 ∧ o = (s.plainCell a.toNat).2)) :
    (s.store st o v).memRead a = s.memRead a := by
  have hk : ∀ k, 0xFF00 ≤ k → k < 0xFF80 → (s.store st o v).io k = s.io k := by
    intro k h1 h2
    unfold State.io
    rw [State.store_mem, Memory.get_set_other]
    exact hio k h1 h2
  have hvb : (s.store st o v).vramBank1 = s.vramBank1 := by
    unfold State.vramBank1
    rw [hk 0xFF4F (by omega) (by omega), State.store_cart]
  have hvc : ∀ k, (s.store st o v).vramCell k = s.vramCell k := by
    intro k
    unfold State.vramCell
    rw [hvb]
  have hwb : ∀ k, (s.store st o v).wramIndex k = s.wramIndex k := by
    intro k
    unfold State.wramIndex State.wbank
    rw [hk 0xFF70 (by omega) (by omega), State.store_cart]
  have hpi : ∀ k, 0xFF00 ≤ k → k < 0xFF80 → (s.store st o v).paletteIndex k = s.paletteIndex k := by
    intro k h1 h2
    unfold State.paletteIndex
    rw [hk k h1 h2]
  have hcases : a.toNat < 0x8000 ∨ (0x8000 ≤ a.toNat ∧ a.toNat < 0xA000) ∨ (0xA000 ≤ a.toNat ∧ a.toNat < 0xC000) ∨
      (0xD000 ≤ a.toNat ∧ a.toNat < 0xE000) ∨
      ((0xC000 ≤ a.toNat ∧ a.toNat < 0xD000) ∨ (0xE000 ≤ a.toNat ∧ (a.toNat < 0xFF00 ∨ 0xFF80 ≤ a.toNat))) ∨
      (0xFF00 ≤ a.toNat ∧ a.toNat < 0xFF80) := by omega
  rcases hcases with h | h | h | h | h | h
  · rw [State.memRead_rom _ _ h, State.memRead_rom _ _ h]
    show (if s.romOffset a.toNat < s.cart.romLen then (s.mem.set st o v).get .rom (s.romOffset a.toNat) else 0xFF) = _
    rw [Memory.get_set_other _ _ _ _ _ _ (fun hh => hrom hh.1)]
    rfl
  · have hp : s.plainAt a = true := by
      unfold State.plainAt
      simp only [Bool.and_eq_true, Bool.or_eq_true, decide_eq_true_eq]
      exact ⟨⟨by omega, by omega⟩, by omega⟩
    have hc := hcell hp
    rw [State.plainCell_vram _ _ h.2] at hc
    rw [State.memRead_vram _ _ h.1 h.2, State.memRead_vram _ _ h.1 h.2, hvc, State.store_mem, Memory.get_set_other _ _ _ _ _ _ hc]
  · rw [State.memRead_eram _ _ h.1 h.2, State.memRead_eram _ _ h.1 h.2]
    show (if s.eramReaches a.toNat then (s.mem.set st o v).get .eram (s.eramOffset a.toNat) else 0xFF) = _
    by_cases hr : s.eramReaches a.toNat = true
    · have hp : s.plainAt a = true := by
        unfold State.plainAt
        simp only [Bool.and_eq_true, Bool.or_eq_true, decide_eq_true_eq]
        exact ⟨⟨by omega, Or.inr hr⟩, by omega⟩
      have hc := hcell hp
      rw [State.plainCell_eram _ _ h.1 h.2] at hc
      rw [if_pos hr, if_pos hr, Memory.get_set_other _ _ _ _ _ _ hc]
    · rw [if_neg hr, if_neg hr]
  · have hp : s.plainAt a = true := by
      unfold State.plainAt
      simp only [Bool.and_eq_true, Bool.or_eq_true, decide_eq_true_eq]
      exact ⟨⟨by omega, by omega⟩, by omega⟩
    have hc := hcell hp
    rw [State.plainCell_wramx _ _ h.1 h.2] at hc
    rw [State.memRead_wramx _ _ h.1 h.2, State.memRead_wramx _ _ h.1 h.2, hwb, State.store_mem,
      Memory.get_set_other _ _ _ _ _ _ hc]
  · have hp : s.plainAt a = true := by
      unfold State.plainAt
      simp only [Bool.and_eq_true, Bool.or_eq_true, decide_eq_true_eq]
      exact ⟨⟨by omega, by omega⟩, by omega⟩
    have hc := hcell hp
    rw [State.plainCell_m _ _ (by omega)] at hc
    have hsr : (0xC000 ≤ a.toNat ∧ a.toNat < 0xD000) ∨ (0xE000 ≤ a.toNat ∧ ¬ SpecialRead a.toNat) := by
      unfold SpecialRead
      omega
    rw [State.memRead_m _ _ hsr, State.memRead_m _ _ hsr]
    unfold State.io
    rw [State.store_mem, Memory.get_set_other _ _ _ _ _ _ hc]
  · rw [State.memRead_high _ _ (by omega), State.memRead_high _ _ (by omega)]
    have hj : (s.store st o v).joypadRead = s.joypadRead := by
      unfold State.joypadRead
      rw [hk 0xFF00 (by omega) (by omega), State.store_pressed]
    have hs : (s.store st o v).statRead = s.statRead := by
      unfold State.statRead State.modeField
      rw [hk 0xFF41 (by omega) (by omega), hk 0xFF40 (by omega) (by omega), State.store_ppu]
    rw [hj, hs, hpi 0xFF68 (by omega) (by omega), hpi 0xFF6A (by omega) (by omega), hk a.toNat h.1 h.2, State.store_mem,
      Memory.get_set_other _ _ _ _ _ _ (fun hh => hbg hh.1), Memory.get_set_other _ _ _ _ _ _ (fun hh => hobj hh.1),
      State.store_divider, State.store_ppu]

theorem State.plainCell_store (s : State) (addr : Word) (h : s.plainAt addr = true) :
    (∀ k, 0xFF00 ≤ k → k < 0xFF80 → ¬ ((s.plainCell addr.toNat).1 = .m ∧ (s.plainCell addr.toNat).2 = k)) ∧
    (s.plainCell addr.toNat).1 ≠ .rom ∧ (s.plainCell addr.toNat).1 ≠ .bgpal ∧ (s.plainCell addr.toNat).1 ≠ .objpal := by
  rcases s.plainAt_cases addr h with h | h | h | h
  · rw [State.plainCell_vram _ _ h.2]
    unfold State.vramCell
    split
    · exact ⟨fun k _ _ hh => by simp at hh, by simp, by simp, by simp⟩
    · exact ⟨fun k _ _ hh => by simp at hh; omega, by simp, by simp, by simp⟩
  · rw [State.plainCell_eram _ _ h.1 h.2.1]
    exact ⟨fun k _ _ hh => by simp at hh, by simp, by simp, by simp⟩
  · rw [State.plainCell_wramx _ _ h.1 h.2]
    exact ⟨fun k _ _ hh => by simp at hh, by simp, by simp, by simp⟩
  · rw [State.plainCell_m _ _ (by omega)]
    exact ⟨fun k _ _ hh => by simp at hh; omega, by simp, by simp, by simp⟩

/-- The cell behind a plain address depends on the profile, the bank registers, VBK and SVBK. -/
theorem State.plainCell_congr (s t : State) (a : Nat) (hc : t.cart = s.cart) (hb : t.mbc = s.mbc)
    (hv : t.io 0xFF4F = s.io 0xFF4F) (hs : t.io 0xFF70 = s.io 0xFF70) : t.plainCell a = s.plainCell a := by
  unfold State.plainCell State.vramCell State.vramBank1 State.eramOffset State.wramIndex State.wbank
  rw [hc, hb, hv, hs]

theorem State.plainCell_inj (s : State) (a b : Word) (ha : s.plainAt a = true) (hb : s.plainAt b = true)
    (h : s.plainCell a.toNat = s.plainCell b.toNat) : a = b := by
  apply BitVec.eq_of_toNat_eq
  unfold State.plainCell State.vramCell State.eramOffset State.wramIndex at h
  have ca := s.plainAt_cases a ha
  have cb := s.plainAt_cases b hb
  split_ifs at h <;> simp only [Prod.mk.injEq, reduceCtorEq, false_and, true_and] at h <;> omega

/-- Read after write in plain storage: the address reads as the byte stored, and every other address as before. -/
theorem State.memWrite_plain_read (s : State) (addr : Word) (v : Byte) (h : s.plainAt addr = true) :
    (s.memWrite addr v).memRead addr = v ∧ ∀ a, a ≠ addr → (s.memWrite addr v).memRead a = s.memRead a := by
  rw [State.memWrite_plain _ _ _ h]
  obtain ⟨h1, h2, h3, h4⟩ := s.plainCell_store addr h
  constructor
  · have hk : ∀ k, 0xFF00 ≤ k → k < 0xFF80 →
        (s.store (s.plainCell addr.toNat).1 (s.plainCell addr.toNat).2 v).io k = s.io k := by
      intro k hk1 hk2
      unfold State.io
      rw [State.store_mem, Memory.get_set_other]
      exact h1 k hk1 hk2
    have hpc := State.plainCell_congr s (s.store (s.plainCell addr.toNat).1 (s.plainCell addr.toNat).2 v) addr.toNat
      rfl rfl (hk 0xFF4F (by omega) (by omega)) (hk 0xFF70 (by omega) (by omega))
    have hpa : (s.store (s.plainCell addr.toNat).1 (s.plainCell addr.toNat).2 v).plainAt addr = true := h
    rw [State.memRead_plain _ _ hpa, hpc, State.store_mem, Memory.get_set_same]
  · intro a ha
    apply State.memRead_store _ _ _ _ _ h1 h2 h3 h4
    rintro hpa ⟨e1, e2⟩
    exact ha (s.plainCell_inj a addr hpa h (Prod.ext e1.symm e2.symm))

/-! ## Stores of instructions -/

theorem WriteFrame.withCpu {s : State} {addr : Word} {t : State} (h : WriteFrame s addr t) (c : Cpu) (n : Nat) :
    WriteFrame s addr { t with cpu := c, cycles := n } :=
  { cart := h.cart, ppu := h.ppu, pressed := h.pressed, fault := h.fault, launch := h.launch, out := h.out, mbc := h.mbc,
    divider := h.divider, apu := h.apu, cells := h.cells }

/-- Which addresses are plain depends on the profile and the bank registers alone. -/
theorem State.plainAt_memWrite (s : State) (a b : Word) (v : Byte) (h : 0x8000 ≤ a.toNat) :
    (s.memWrite a v).plainAt b = s.plainAt b := by
  have hf := s.memWrite_frame a v
  unfold State.plainAt State.eramReaches State.eramOn State.eramOffset
  rw [hf.cart, hf.mbc h]

theorem State.plainAt_ge (s : State) (a : Word) (h : s.plainAt a = true) : 0x8000 ≤ a.toNat := by
  rcases s.plainAt_cases a h with h | h | h | h <;> omega

theorem storesByte_of (s : State) (addr : Word) (v : Byte) (c : Cpu) (n : Nat) :
    StoresByte s addr v c n { s.memWrite addr v with cpu := c, cycles := n } :=
  ⟨rfl, (s.memWrite_frame addr v).withCpu c n, fun h => s.memWrite_plain_read addr v h⟩

theorem storesTwoBytes_of (s : State) (a1 : Word) (v1 : Byte) (a2 : Word) (v2 : Byte) (c : Cpu) (n : Nat) :
    StoresTwoBytes s a1 v1 a2 v2 c n { (s.memWrite a1 v1).memWrite a2 v2 with cpu := c, cycles := n } := by
  refine ⟨rfl, s.memWrite_frame a1 v1, ((s.memWrite a1 v1).memWrite_frame a2 v2).withCpu c n, ?_⟩
  intro hne h1 h2
  have p1 := s.memWrite_plain_read a1 v1 h1
  have p2 := (s.memWrite a1 v1).memWrite_plain_read a2 v2
    (by rw [s.plainAt_memWrite a1 a2 v1 (s.plainAt_ge a1 h1)]; exact h2)
  exact ⟨(p2.2 a1 hne).trans p1.1, p2.1, fun a ha1 ha2 => (p2.2 a ha2).trans (p1.2 a ha1)⟩

/-! ## The stack (R236) -/

/-- A push is two bus writes, the high byte first, at SP - 1 and SP - 2. -/
theorem State.push16_eq (s : State) (v : Word) :
    s.push16 v = { (s.memWrite (s.cpu.sp - 1) (hiByte v)).memWrite (s.cpu.sp - 2) (loByte v) with
      cpu := { s.cpu with sp := s.cpu.sp - 2 }, cycles := s.cycles } := by
  have h1 : s.pushByte (hiByte v) = { s.memWrite (s.cpu.sp - 1) (hiByte v) with
      cpu := { s.cpu with sp := s.cpu.sp - 1 }, cycles := s.cycles } :=
    State.memWrite_withCpu s { s.cpu with sp := s.cpu.sp - 1 } s.cycles (s.cpu.sp - 1) (hiByte v)
  have h2 : s.cpu.sp - 1 - 1 = s.cpu.sp - 2 := by bv_omega
  unfold State.push16
  rw [h1]
  unfold State.pushByte
  dsimp only [State.setSp]
  rw [h2]
  exact State.memWrite_withCpu (s.memWrite (s.cpu.sp - 1) (hiByte v)) _ _ _ _

@[simp] theorem State.push16_cpu (s : State) (v : Word) : (s.push16 v).cpu = { s.cpu with sp := s.cpu.sp - 2 } := by
  rw [State.push16_eq]

@[simp] theorem State.push16_cycles (s : State) (v : Word) : (s.push16 v).cycles = s.cycles := by
  rw [State.push16_eq]

theorem State.push16_wf (s : State) (v : Word) (h : s.mem.wf = true) : (s.push16 v).mem.wf = true := by
  rw [State.push16_eq]
  exact State.memWrite_wf _ _ _ (State.memWrite_wf _ _ _ h)

theorem joinBytes_hi_lo (v : Word) : joinBytes (hiByte v) (loByte v) = v := by
  unfold joinBytes hiByte loByte
  apply BitVec.eq_of_getLsbD_eq
  intro i hi
  simp only [BitVec.getLsbD_append, BitVec.getLsbD_setWidth, BitVec.getLsbD_ushiftRight]
  by_cases h : i < 8
  · simp [h]
  · simp only [h, ↓reduceIte]
    rw [show 8 + (i - 8) = i by omega]
    simp [show i - 8 < 8 by omega]

@[simp] theorem hiByte_joinBytes (hi lo : Byte) : hiByte (joinBytes hi lo) = hi := by
  unfold joinBytes hiByte
  apply BitVec.eq_of_getLsbD_eq
  intro i hi
  simp only [BitVec.getLsbD_append, BitVec.getLsbD_setWidth, BitVec.getLsbD_ushiftRight]
  simp [hi, show ¬ 8 + i < 8 by omega]

@[simp] theorem loByte_joinBytes (hi lo : Byte) : loByte (joinBytes hi lo) = lo := by
  unfold joinBytes loByte
  apply BitVec.eq_of_getLsbD_eq
  intro i hi
  simp only [BitVec.getLsbD_append, BitVec.getLsbD_setWidth]
  simp [hi]

theorem joinBytes_toNat (hi lo : Byte) : (joinBytes hi lo).toNat = hi.toNat * 256 + lo.toNat := by
  unfold joinBytes
  rw [BitVec.toNat_append, Nat.shiftLeft_eq]
  have : lo.toNat < 2 ^ 8 := lo.isLt
  rw [show (2:Nat) ^ 8 = 256 by rfl] at *
  rw [Nat.mul_comm, ← Nat.two_pow_add_eq_or_of_lt (i := 8) this]

end Sys2Proof.Machine
end

