-- ==== Sys2Proof/Tests/Slice0.lean ====
section
/-! SUPPORT. Tests: the checks of WellFormed, words decoded by hand, single steps from the spec's own vectors
(95_test_vectors.md), and a witness for the hypotheses of every obligation. -/

namespace Sys2Proof.Tests

open Sys2Proof Sys2Proof.Machine

/-! ## Well-formedness refuses ill-formed terms -/

theorem test_illegal_needs_unassigned_byte : (Instr.illegal 0x00).wf = false := by decide
theorem test_illegal_accepts_unassigned_byte : (Instr.illegal 0xFD).wf = true := by decide
theorem test_bare_prefix_refused : (Instr.prefixCb 0x00).wf = false := by decide

/-! ## Decoding: words written out from the encodings -/

/-- X1: 01 111 000. -/
theorem test_decode_ld_a_b : decode [0x78] = .ok (.ldAB, []) := by decide
/-- 00 110 110, then n8. -/
theorem test_decode_ld_at_hl_n8 : decode [0x36, 0x77] = .ok (.ldAtHlN8 0x77, []) := by decide
/-- 11 100 000, then a8. -/
theorem test_decode_ldh_at_a8_a : decode [0xE0, 0x80] = .ok (.ldhAtA8A 0x80, []) := by decide
/-- X3: 00 001 000, then a16 low byte first. -/
theorem test_decode_ld_at_a16_sp : decode [0x08, 0x00, 0xC0] = .ok (.ldAtA16Sp 0xC000, []) := by decide
/-- 11 11 0101. -/
theorem test_decode_push_af : decode [0xF5] = .ok (.pushAf, []) := by decide
/-- 10 000 000. -/
theorem test_decode_add_a_b : decode [0x80] = .ok (.addAB, []) := by decide
/-- 11 111 110, then n8. -/
theorem test_decode_cp_n8 : decode [0xFE, 0x3C] = .ok (.cpN8 0x3C, []) := by decide
/-- 00 000 100. -/
theorem test_decode_inc_b : decode [0x04] = .ok (.incB, []) := by decide
/-- 00 00 1001. -/
theorem test_decode_add_hl_bc : decode [0x09] = .ok (.addHlBc, []) := by decide
/-- 11 101 000, then e8. -/
theorem test_decode_add_sp_e8 : decode [0xE8, 0xFE] = .ok (.addSpE8 0xFE, []) := by decide
/-- 00 000 111. -/
theorem test_decode_rlca : decode [0x07] = .ok (.rlca, []) := by decide
/-- X5: CB, 00 110 110. -/
theorem test_decode_swap_at_hl : decode [0xCB, 0x36] = .ok (.swapAtHl, []) := by decide
/-- X6: CB, 01 111 110. -/
theorem test_decode_bit_7_at_hl : decode [0xCB, 0x7E] = .ok (.bit7AtHl, []) := by decide
/-- X7: CB, 11 111 110. -/
theorem test_decode_set_7_at_hl : decode [0xCB, 0xFE] = .ok (.set7AtHl, []) := by decide
/-- CB, 10 000 110. -/
theorem test_decode_res_0_at_hl : decode [0xCB, 0x86] = .ok (.res0AtHl, []) := by decide
/-- 11 001 101, then a16 low byte first. -/
theorem test_decode_call_a16 : decode [0xCD, 0x34, 0x12] = .ok (.callA16 0x1234, []) := by decide
/-- 00 110 000, then e8. -/
theorem test_decode_jr_nc_e8 : decode [0x30, 0xF0] = .ok (.jrNcE8 0xF0, []) := by decide
/-- X2: 01 110 110 is HALT, not LD (HL),(HL). -/
theorem test_decode_halt : decode [0x76] = .ok (.halt, []) := by decide
/-- X4: two bytes. -/
theorem test_decode_stop : decode [0x10, 0x00] = .ok (.stop 0x00, []) := by decide
/-- X8. -/
theorem test_decode_illegal_d3 : decode [0xD3] = .ok (.illegal 0xD3, []) := by decide
/-- R184: CALL announces three bytes. -/
theorem test_decode_truncated : decode [0xCD, 0x34] = .error (.truncated 0xCD) := by decide
theorem test_decode_nothing : decode [] = .error .noByte := by decide
/-- The bytes after the instruction are left. -/
theorem test_decode_rest : decode [0x3E, 0x05, 0x76] = .ok (.ldAN8 0x05, [0x76]) := by decide
/-- opcode_table.json numbers the CB row of BIT 7,H as 0xCB7C. -/
theorem test_table_word_cb : decodeTableWord 16 0xCB7C = some .bit7H := by decide
theorem test_table_word_operand : decodeTableWord 8 0xCD = some (.callA16 0x0000) := by decide

/-! ## Single steps: the vectors of 95_test_vectors.md part 2 -/

/-- The register defaults of the vectors. -/
def zeroCpu : Cpu :=
  { a := 0, f := 0, b := 0, c := 0, d := 0, e := 0, h := 0, l := 0, sp := 0xFFFE, pc := 0x0100, ime := .disabled,
    halted := false }

/-- A machine with these registers, these instruction bytes at PC in the image, and these bytes of `M`. -/
def vector (c : Cpu) (bytes : List Byte) (cells : List Host.Cell) : State :=
  { State.reset with
    cpu := c
    mem := { State.reset.mem with m := Mem.ofCells 0x10000 cells, rom := Mem.ofBytes c.pc.toNat bytes }
    launch := { State.reset.launch with sampleRate := 44100, batchSize := 4 } }

/-- The registers and the cost after one CPU step. -/
def cpuAfter (s : State) : Option (Cpu × Nat) :=
  match cpuStep s with
  | .next t => some (t.cpu, t.cycles)
  | _ => none

/-- The byte at an address after one CPU step. -/
def byteAfter (s : State) (a : Word) : Option Byte :=
  match cpuStep s with
  | .next t => some (t.memRead a)
  | _ => none

/-- The state after one whole system step. -/
def stepped (s : State) : State :=
  match step s with
  | .next t => t
  | _ => s

/-- V1. -/
theorem test_ld_b_c :
    cpuAfter (vector { zeroCpu with c := 0x5A } [0x41] []) =
      some ({ zeroCpu with c := 0x5A, b := 0x5A, pc := 0x0101 }, 4) := by decide
/-- V3. -/
theorem test_ld_h_at_hl :
    cpuAfter (vector { zeroCpu with h := 0xC0 } [0x66] [(0xC000, 0x12)]) =
      some ({ zeroCpu with h := 0x12, pc := 0x0101 }, 8) := by decide
/-- V4. -/
theorem test_ld_at_hl_n8 :
    byteAfter (vector { zeroCpu with h := 0xC0, l := 0x01 } [0x36, 0x77] []) 0xC001 = some 0x77 := by decide
/-- V5. -/
theorem test_ld_at_hl_h :
    byteAfter (vector { zeroCpu with h := 0xC1, l := 0x23 } [0x74] []) 0xC123 = some 0xC1 := by decide
/-- V6. -/
theorem test_ld_a_at_hl_inc :
    cpuAfter (vector { zeroCpu with h := 0xC0, l := 0xFF } [0x2A] [(0xC0FF, 0x5E)]) =
      some ({ zeroCpu with h := 0xC1, l := 0x00, a := 0x5E, pc := 0x0101 }, 8) := by decide
/-- V7. -/
theorem test_ld_at_hl_inc_a_wraps :
    cpuAfter (vector { zeroCpu with a := 0x1F, h := 0xFF, l := 0xFF } [0x22] []) =
      some ({ zeroCpu with a := 0x1F, h := 0x00, l := 0x00, pc := 0x0101 }, 8) := by decide
theorem test_ld_at_hl_inc_a_wraps_store :
    byteAfter (vector { zeroCpu with a := 0x1F, h := 0xFF, l := 0xFF } [0x22] []) 0xFFFF = some 0x1F := by decide
/-- V8. -/
theorem test_ld_at_hl_dec_a :
    byteAfter (vector { zeroCpu with a := 0x07, h := 0xC0 } [0x32] []) 0xC000 = some 0x07 := by decide
/-- V9. -/
theorem test_ld_a_at_de :
    cpuAfter (vector { zeroCpu with d := 0xC0, e := 0x10 } [0x1A] [(0xC010, 0xAB)]) =
      some ({ zeroCpu with d := 0xC0, e := 0x10, a := 0xAB, pc := 0x0101 }, 8) := by decide
/-- V10. -/
theorem test_ld_at_bc_a :
    byteAfter (vector { zeroCpu with a := 0x3C, b := 0xC0, c := 0x20 } [0x02] []) 0xC020 = some 0x3C := by decide
/-- V11. -/
theorem test_ldh_at_a8_a :
    byteAfter (vector { zeroCpu with a := 0x42 } [0xE0, 0x80] []) 0xFF80 = some 0x42 := by decide
/-- V12. -/
theorem test_ldh_a_at_a8 :
    cpuAfter (vector zeroCpu [0xF0, 0x81] [(0xFF81, 0x24)]) =
      some ({ zeroCpu with a := 0x24, pc := 0x0102 }, 12) := by decide
/-- V13. -/
theorem test_ld_at_c_a :
    byteAfter (vector { zeroCpu with a := 0x11, c := 0x82 } [0xE2] []) 0xFF82 = some 0x11 := by decide
/-- V14. -/
theorem test_ld_a_at_c :
    cpuAfter (vector { zeroCpu with c := 0x83 } [0xF2] [(0xFF83, 0x22)]) =
      some ({ zeroCpu with c := 0x83, a := 0x22, pc := 0x0101 }, 8) := by decide
/-- V15. -/
theorem test_ld_at_a16_a :
    byteAfter (vector { zeroCpu with a := 0x66 } [0xEA, 0x34, 0xC2] []) 0xC234 = some 0x66 := by decide
/-- V17. -/
theorem test_ld_e_n8 :
    cpuAfter (vector { zeroCpu with f := 0xF0 } [0x1E, 0xFF] []) =
      some ({ zeroCpu with f := 0xF0, e := 0xFF, pc := 0x0102 }, 8) := by decide
/-- V20. -/
theorem test_ld_at_a16_sp :
    byteAfter (vector { zeroCpu with sp := 0xABCD } [0x08, 0x00, 0xC0] []) 0xC001 = some 0xAB := by decide
/-- V22. -/
theorem test_ld_hl_sp_minus_1 :
    cpuAfter (vector { zeroCpu with sp := 0x0001 } [0xF8, 0xFF] []) =
      some ({ zeroCpu with sp := 0x0001, f := 0x30, pc := 0x0102 }, 12) := by decide
/-- V24. -/
theorem test_ld_hl_sp_minus_128 :
    cpuAfter (vector { zeroCpu with sp := 0x0000, f := 0xF0 } [0xF8, 0x80] []) =
      some ({ zeroCpu with sp := 0x0000, f := 0x00, h := 0xFF, l := 0x80, pc := 0x0102 }, 12) := by decide
/-- V25. -/
theorem test_push_bc :
    byteAfter (vector { zeroCpu with b := 0xBE, c := 0xEF } [0xC5] []) 0xFFFD = some 0xBE := by decide
/-- V27. -/
theorem test_pop_af :
    cpuAfter (vector { zeroCpu with sp := 0xC000 } [0xF1] [(0xC000, 0xFF), (0xC001, 0x12)]) =
      some ({ zeroCpu with sp := 0xC002, a := 0x12, f := 0xF0, pc := 0x0101 }, 12) := by decide
/-- V28. -/
theorem test_push_af_wraps :
    cpuAfter (vector { zeroCpu with a := 0x12, f := 0xB0, sp := 0x0000 } [0xF5] []) =
      some ({ zeroCpu with a := 0x12, f := 0xB0, sp := 0xFFFE, pc := 0x0101 }, 16) := by decide
theorem test_push_af_wraps_store :
    byteAfter (vector { zeroCpu with a := 0x12, f := 0xB0, sp := 0x0000 } [0xF5] []) 0xFFFF = some 0x12 := by decide
/-- V29. -/
theorem test_add_a_n8 :
    cpuAfter (vector { zeroCpu with a := 0xFF } [0xC6, 0x01] []) =
      some ({ zeroCpu with a := 0x00, f := 0xB0, pc := 0x0102 }, 8) := by decide
/-- V33. -/
theorem test_adc_a_n8 :
    cpuAfter (vector { zeroCpu with a := 0xFF, f := 0x10 } [0xCE, 0x00] []) =
      some ({ zeroCpu with a := 0x00, f := 0xB0, pc := 0x0102 }, 8) := by decide
/-- V34. -/
theorem test_sub_b :
    cpuAfter (vector { zeroCpu with a := 0x10, b := 0x01 } [0x90] []) =
      some ({ zeroCpu with a := 0x0F, b := 0x01, f := 0x60, pc := 0x0101 }, 4) := by decide
/-- V36. -/
theorem test_sbc_a_n8 :
    cpuAfter (vector { zeroCpu with f := 0x10 } [0xDE, 0x01] []) =
      some ({ zeroCpu with f := 0x70, a := 0xFE, pc := 0x0102 }, 8) := by decide
/-- V37. -/
theorem test_sbc_a_b :
    cpuAfter (vector { zeroCpu with a := 0x10, b := 0x0F, f := 0x10 } [0x98] []) =
      some ({ zeroCpu with a := 0x00, b := 0x0F, f := 0xE0, pc := 0x0101 }, 4) := by decide
/-- V39. -/
theorem test_cp_n8_less :
    cpuAfter (vector { zeroCpu with a := 0x3C } [0xFE, 0x40] []) =
      some ({ zeroCpu with a := 0x3C, f := 0x50, pc := 0x0102 }, 8) := by decide
/-- V40. -/
theorem test_and_n8 :
    cpuAfter (vector { zeroCpu with a := 0xF0 } [0xE6, 0x0F] []) =
      some ({ zeroCpu with a := 0x00, f := 0xA0, pc := 0x0102 }, 8) := by decide
/-- V41. -/
theorem test_xor_a :
    cpuAfter (vector { zeroCpu with a := 0x5A, f := 0x70 } [0xAF] []) =
      some ({ zeroCpu with a := 0x00, f := 0x80, pc := 0x0101 }, 4) := by decide
/-- V42. -/
theorem test_or_at_hl :
    cpuAfter (vector { zeroCpu with h := 0xC0, f := 0x30 } [0xB6] []) =
      some ({ zeroCpu with h := 0xC0, f := 0x80, pc := 0x0101 }, 8) := by decide
/-- V43. -/
theorem test_inc_a_wraps :
    cpuAfter (vector { zeroCpu with a := 0xFF, f := 0x10 } [0x3C] []) =
      some ({ zeroCpu with a := 0x00, f := 0xB0, pc := 0x0101 }, 4) := by decide
/-- V46. -/
theorem test_dec_b_wraps :
    cpuAfter (vector { zeroCpu with f := 0x10 } [0x05] []) =
      some ({ zeroCpu with f := 0x70, b := 0xFF, pc := 0x0101 }, 4) := by decide
/-- V47. -/
theorem test_inc_at_hl :
    cpuAfter (vector { zeroCpu with h := 0xC0 } [0x34] [(0xC000, 0xFF)]) =
      some ({ zeroCpu with h := 0xC0, f := 0xA0, pc := 0x0101 }, 12) := by decide
theorem test_inc_at_hl_store :
    byteAfter (vector { zeroCpu with h := 0xC0 } [0x34] [(0xC000, 0xFF)]) 0xC000 = some 0x00 := by decide
/-- V48. -/
theorem test_dec_at_hl :
    byteAfter (vector { zeroCpu with h := 0xC0 } [0x35] [(0xC000, 0x10)]) 0xC000 = some 0x0F := by decide
/-- V50. -/
theorem test_daa_after_add :
    cpuAfter (vector { zeroCpu with a := 0x9A } [0x27] []) =
      some ({ zeroCpu with a := 0x00, f := 0x90, pc := 0x0101 }, 4) := by decide
/-- V54. -/
theorem test_daa_after_sub :
    cpuAfter (vector { zeroCpu with a := 0xFF, f := 0x70 } [0x27] []) =
      some ({ zeroCpu with a := 0x99, f := 0x50, pc := 0x0101 }, 4) := by decide
/-- V55. -/
theorem test_cpl :
    cpuAfter (vector { zeroCpu with a := 0x35, f := 0x90 } [0x2F] []) =
      some ({ zeroCpu with a := 0xCA, f := 0xF0, pc := 0x0101 }, 4) := by decide
/-- V56. -/
theorem test_scf :
    cpuAfter (vector { zeroCpu with f := 0xE0 } [0x37] []) =
      some ({ zeroCpu with f := 0x90, pc := 0x0101 }, 4) := by decide
/-- V57. -/
theorem test_ccf :
    cpuAfter (vector { zeroCpu with f := 0x90 } [0x3F] []) =
      some ({ zeroCpu with f := 0x80, pc := 0x0101 }, 4) := by decide
/-- V58. -/
theorem test_add_hl_bc :
    cpuAfter (vector { zeroCpu with h := 0x0F, l := 0xFF, c := 0x01, f := 0x80 } [0x09] []) =
      some ({ zeroCpu with h := 0x10, l := 0x00, c := 0x01, f := 0xA0, pc := 0x0101 }, 8) := by decide
/-- V60. -/
theorem test_add_hl_sp :
    cpuAfter (vector { zeroCpu with h := 0x12, l := 0x34, sp := 0xEDCC, f := 0xC0 } [0x39] []) =
      some ({ zeroCpu with h := 0x00, l := 0x00, sp := 0xEDCC, f := 0xB0, pc := 0x0101 }, 8) := by decide
/-- V61. -/
theorem test_inc_bc_wraps :
    cpuAfter (vector { zeroCpu with b := 0xFF, c := 0xFF, f := 0xF0 } [0x03] []) =
      some ({ zeroCpu with b := 0x00, c := 0x00, f := 0xF0, pc := 0x0101 }, 8) := by decide
/-- V62. -/
theorem test_dec_sp_wraps :
    cpuAfter (vector { zeroCpu with sp := 0x0000 } [0x3B] []) =
      some ({ zeroCpu with sp := 0xFFFF, pc := 0x0101 }, 8) := by decide
/-- V66. -/
theorem test_add_sp_minus_1 :
    cpuAfter (vector { zeroCpu with sp := 0xFFF8 } [0xE8, 0xFF] []) =
      some ({ zeroCpu with sp := 0xFFF7, f := 0x30, pc := 0x0102 }, 16) := by decide
/-- V68. -/
theorem test_rlca_clears_z :
    cpuAfter (vector { zeroCpu with f := 0x80 } [0x07] []) =
      some ({ zeroCpu with f := 0x00, pc := 0x0101 }, 4) := by decide
/-- V69. -/
theorem test_rrca :
    cpuAfter (vector { zeroCpu with a := 0x01 } [0x0F] []) =
      some ({ zeroCpu with a := 0x80, f := 0x10, pc := 0x0101 }, 4) := by decide
/-- V70. -/
theorem test_rla :
    cpuAfter (vector { zeroCpu with a := 0x80 } [0x17] []) =
      some ({ zeroCpu with a := 0x00, f := 0x10, pc := 0x0101 }, 4) := by decide
/-- V71. -/
theorem test_rra :
    cpuAfter (vector { zeroCpu with a := 0x01, f := 0x10 } [0x1F] []) =
      some ({ zeroCpu with a := 0x80, f := 0x10, pc := 0x0101 }, 4) := by decide
/-- V72. -/
theorem test_rlc_b :
    cpuAfter (vector { zeroCpu with b := 0x80 } [0xCB, 0x00] []) =
      some ({ zeroCpu with b := 0x01, f := 0x10, pc := 0x0102 }, 8) := by decide
/-- V74. -/
theorem test_rrc_at_hl :
    byteAfter (vector { zeroCpu with h := 0xC0 } [0xCB, 0x0E] [(0xC000, 0x01)]) 0xC000 = some 0x80 := by decide
/-- V75. -/
theorem test_rl_e :
    cpuAfter (vector { zeroCpu with e := 0x80 } [0xCB, 0x13] []) =
      some ({ zeroCpu with e := 0x00, f := 0x90, pc := 0x0102 }, 8) := by decide
/-- V76. -/
theorem test_rr_c :
    cpuAfter (vector { zeroCpu with c := 0x01, f := 0x10 } [0xCB, 0x19] []) =
      some ({ zeroCpu with c := 0x80, f := 0x10, pc := 0x0102 }, 8) := by decide
/-- V77. -/
theorem test_sla_d :
    cpuAfter (vector { zeroCpu with d := 0x80 } [0xCB, 0x22] []) =
      some ({ zeroCpu with d := 0x00, f := 0x90, pc := 0x0102 }, 8) := by decide
/-- V78. -/
theorem test_sra_e :
    cpuAfter (vector { zeroCpu with e := 0x81 } [0xCB, 0x2B] []) =
      some ({ zeroCpu with e := 0xC0, f := 0x10, pc := 0x0102 }, 8) := by decide
/-- V79. -/
theorem test_swap_a :
    cpuAfter (vector { zeroCpu with a := 0xF0, f := 0x10 } [0xCB, 0x37] []) =
      some ({ zeroCpu with a := 0x0F, f := 0x00, pc := 0x0102 }, 8) := by decide
/-- V81. -/
theorem test_srl_a :
    cpuAfter (vector { zeroCpu with a := 0x01 } [0xCB, 0x3F] []) =
      some ({ zeroCpu with a := 0x00, f := 0x90, pc := 0x0102 }, 8) := by decide
/-- V82. -/
theorem test_bit_7_h :
    cpuAfter (vector { zeroCpu with h := 0x80, f := 0x10 } [0xCB, 0x7C] []) =
      some ({ zeroCpu with h := 0x80, f := 0x30, pc := 0x0102 }, 8) := by decide
/-- V83. -/
theorem test_bit_0_at_hl :
    cpuAfter (vector { zeroCpu with h := 0xC0 } [0xCB, 0x46] [(0xC000, 0xFE)]) =
      some ({ zeroCpu with h := 0xC0, f := 0xA0, pc := 0x0102 }, 12) := by decide
/-- V84. -/
theorem test_res_0_at_hl :
    byteAfter (vector { zeroCpu with h := 0xC0, f := 0xF0 } [0xCB, 0x86] [(0xC000, 0xFF)]) 0xC000 = some 0xFE := by decide
/-- V85. -/
theorem test_set_7_a :
    cpuAfter (vector zeroCpu [0xCB, 0xFF] []) =
      some ({ zeroCpu with a := 0x80, pc := 0x0102 }, 8) := by decide
/-- V87. -/
theorem test_jp_nz_not_taken :
    cpuAfter (vector { zeroCpu with f := 0x80 } [0xC2, 0x00, 0x02] []) =
      some ({ zeroCpu with f := 0x80, pc := 0x0103 }, 12) := by decide
/-- V88. -/
theorem test_jp_c_taken :
    cpuAfter (vector { zeroCpu with f := 0x10 } [0xDA, 0x00, 0x02] []) =
      some ({ zeroCpu with f := 0x10, pc := 0x0200 }, 16) := by decide
/-- V89. -/
theorem test_jp_hl :
    cpuAfter (vector { zeroCpu with h := 0xC0 } [0xE9] []) =
      some ({ zeroCpu with h := 0xC0, pc := 0xC000 }, 4) := by decide
/-- V92. -/
theorem test_jr_z_not_taken :
    cpuAfter (vector zeroCpu [0x28, 0x10] []) =
      some ({ zeroCpu with pc := 0x0102 }, 8) := by decide
/-- V93. -/
theorem test_jr_nc_backward :
    cpuAfter (vector zeroCpu [0x30, 0xF0] []) =
      some ({ zeroCpu with pc := 0x00F2 }, 12) := by decide
/-- V94. -/
theorem test_call_a16 :
    cpuAfter (vector zeroCpu [0xCD, 0x34, 0x12] []) =
      some ({ zeroCpu with sp := 0xFFFC, pc := 0x1234 }, 24) := by decide
theorem test_call_a16_store :
    byteAfter (vector zeroCpu [0xCD, 0x34, 0x12] []) 0xFFFC = some 0x03 := by decide
/-- V95. -/
theorem test_call_nc_not_taken :
    cpuAfter (vector { zeroCpu with f := 0x10 } [0xD4, 0x34, 0x12] []) =
      some ({ zeroCpu with f := 0x10, pc := 0x0103 }, 12) := by decide
/-- V97. -/
theorem test_ret_z_not_taken :
    cpuAfter (vector { zeroCpu with sp := 0xFFFC } [0xC8] []) =
      some ({ zeroCpu with sp := 0xFFFC, pc := 0x0101 }, 8) := by decide
/-- V98. -/
theorem test_ret_c_taken :
    cpuAfter (vector { zeroCpu with f := 0x10, sp := 0xFFFC } [0xD8] [(0xFFFD, 0x20)]) =
      some ({ zeroCpu with f := 0x10, sp := 0xFFFE, pc := 0x2000 }, 20) := by decide
/-- V99. -/
theorem test_reti :
    cpuAfter (vector { zeroCpu with sp := 0xFFFC } [0xD9] [(0xFFFC, 0x13), (0xFFFD, 0x01)]) =
      some ({ zeroCpu with sp := 0xFFFE, pc := 0x0113, ime := .enabled }, 16) := by decide
/-- V100. -/
theorem test_rst_38 :
    byteAfter (vector zeroCpu [0xFF] []) 0xFFFC = some 0x01 := by decide
/-- V103. -/
theorem test_stop :
    cpuAfter (vector zeroCpu [0x10, 0x00] []) =
      some ({ zeroCpu with pc := 0x0102 }, 4) := by decide
/-- V104. -/
theorem test_halt :
    cpuAfter (vector zeroCpu [0x76] []) =
      some ({ zeroCpu with pc := 0x0101, halted := true }, 4) := by decide
/-- V105. -/
theorem test_di :
    cpuAfter (vector { zeroCpu with ime := .enabled } [0xF3] []) =
      some ({ zeroCpu with ime := .disabled, pc := 0x0101 }, 4) := by decide
/-- V106. -/
theorem test_ei :
    cpuAfter (vector zeroCpu [0xFB] []) =
      some ({ zeroCpu with pc := 0x0101, ime := .pending }, 4) := by decide
/-- V107. -/
theorem test_ei_enabled :
    cpuAfter (vector { zeroCpu with ime := .enabled } [0xFB] []) =
      some ({ zeroCpu with ime := .enabled, pc := 0x0101 }, 4) := by decide

/-! ## Whole steps -/

/-- Program 5, step 2: the illegal byte is recorded with its own address, PC is one past it, the divider did not move. -/
theorem test_illegal_step :
    (stepped (vector { zeroCpu with pc := 0x0101 } [0xD3] [])).fault = some { op := 0xD3, addr := 0x0101 } := by decide
theorem test_illegal_step_charges_nothing :
    (stepped (vector zeroCpu [0xD3] [])).divider = 0 ∧ (stepped (vector zeroCpu [0xD3] [])).cpu.pc = 0x0101 := by decide
/-- V112 and R420: no further step. -/
theorem test_faulted_machine :
    step (stepped (vector zeroCpu [0xFD] [])) = .fault (.unknownOpcode 0xFD 0x0100) := by rfl
/-- Program 3, step 11: HALT after EI; the promotion, the timer overflow, the wake and the dispatch in one step. -/
theorem test_ei_halt_timer_dispatch :
    (stepped { vector { zeroCpu with pc := 0x0112, ime := .pending } [0x76]
        [(0xFF05, 0xFF), (0xFF07, 0x05), (0xFFFF, 0x04)] with divider := 0x005C }).cpu =
      { zeroCpu with pc := 0x0050, sp := 0xFFFC } := by decide
/-- R401: a halted step costs 4 cycles. -/
theorem test_halted_step :
    (stepped (vector { zeroCpu with halted := true } [0x3C] [])).divider = 4 := by decide
/-- R400 from State.reset: the first step runs the placed INC A (A is 0x01 at reset, R39). -/
theorem test_first_step_after_reset : (stepped (State.reset.withFetchWord 8 0x3C)).cpu.a = 0x02 := by decide
theorem test_first_step_cb : (stepped (State.reset.withFetchWord 16 0xCB37)).cpu.a = 0x10 := by decide +kernel
/-- J5 and R441. -/
theorem test_press_then_step :
    ((stepped { vector zeroCpu [0x00] [] with
      launch := { State.reset.launch with input := [[.press .a]] } }).io 0xFF0F) = 0x10 := by decide

/-! ## Interrupt service -/

/-- E7, I1. -/
theorem test_service_priority :
    ((vector { zeroCpu with ime := .enabled, pc := 0x0200 } [] [(0xFF0F, 0x1F), (0xFFFF, 0x1F)]).service).cpu =
      { zeroCpu with pc := 0x0040, sp := 0xFFFC } := by decide
theorem test_service_clears_one_request :
    ((vector { zeroCpu with ime := .enabled, pc := 0x0200 } [] [(0xFF0F, 0x1F), (0xFFFF, 0x1F)]).service).io 0xFF0F =
      0x1E := by decide
/-- I3: wake without dispatch. -/
theorem test_service_wakes :
    ((vector { zeroCpu with halted := true, pc := 0x0201 } [] [(0xFF0F, 0x04), (0xFFFF, 0x04)]).service).cpu =
      { zeroCpu with pc := 0x0201 } := by decide
/-- I8: the push overwrites IE, the vector stays. -/
theorem test_service_push_into_ie :
    ((vector { zeroCpu with ime := .enabled, sp := 0x0000, pc := 0x0234 } []
      [(0xFF0F, 0x01), (0xFFFF, 0x01)]).service).io 0xFFFF = 0x02 := by decide

/-! ## The bus -/

/-- The cartridge of M1 to M9: MBC1 with 8 KiB of RAM, 512 KiB of image; bank 5's first byte is 0x05. -/
def mbc1State : State :=
  { vector zeroCpu [] [] with
    cart := { Cartridge.reset with cartType := 0x03, ramSize := 0x02, mapper := .mbc1, eramBytes := 8192, romLen := 0x80000 }
    mem := { State.reset.mem with rom := [(0x4000, 0x01), (0x14000, 0x05)] } }

/-- M2, M3, M4. -/
theorem test_mbc1_bank : (mbc1State.memWrite 0x2000 0xE5).memRead 0x4000 = 0x05 := by decide
theorem test_mbc1_bank_zero : (mbc1State.memWrite 0x3FFF 0x20).memRead 0x4000 = 0x01 := by decide
/-- M5: past the image. -/
theorem test_mbc1_past_image : ((mbc1State.memWrite 0x2000 0x05).memWrite 0x4000 0x01).memRead 0x4000 = 0xFF := by decide
/-- M8. -/
theorem test_eram : ((mbc1State.memWrite 0x0000 0x0A).memWrite 0xA000 0x55).memRead 0xA000 = 0x55 := by decide
theorem test_eram_disabled : (mbc1State.memWrite 0xA000 0x55).memRead 0xA000 = 0xFF := by decide
/-- M15: the copy reads through the current bank. -/
theorem test_dma_through_bank : ((mbc1State.memWrite 0x2000 0x05).memWrite 0xFF46 0x40).io 0xFE00 = 0x05 := by decide +kernel
/-- M21: the index wraps. -/
theorem test_palette_index_wraps :
    ((vector zeroCpu [] [(0xFF68, 0xBF)]).memWrite 0xFF69 0x11).io 0xFF68 = 0x80 := by decide
/-- J4. -/
theorem test_joypad_both_groups :
    ({ vector zeroCpu [] [] with pressed := 0x81 }).memRead 0xFF00 = 0xC6 := by decide
/-- M18. -/
theorem test_wram_bank :
    (({ vector zeroCpu [] [(0xFF70, 0x0B)] with cart := { Cartridge.reset with colorMode := true } }).memWrite 0xD000
      0x99).mem.get .wramx 0x3000 = 0x99 := by decide

/-! ## Devices -/

/-- T1 (E5), its last cycle. -/
theorem test_timer_overflow :
    (({ vector zeroCpu [] [(0xFF05, 0xFF), (0xFF06, 0x42), (0xFF07, 0x07)] with divider := 0x00FF }).timerAdvance 1).io
      0xFF05 = 0x42 := by decide
/-- T3. -/
theorem test_timer_counts :
    (({ vector zeroCpu [] [(0xFF07, 0x05)] with divider := 0x000F }).timerAdvance 1).io 0xFF05 = 0x01 := by decide
/-- P8. -/
theorem test_ppu_drawing :
    (({ vector zeroCpu [] [(0xFF40, 0x91)] with ppu := { Ppu.reset with dot := 70 } }).ppuAdvance 24).ppu =
      { dot := 94, ly := 0, mode := .drawing, coinc := true } := by decide
/-- P3, its last cycle. -/
theorem test_vblank_request :
    (({ vector zeroCpu [] [(0xFF40, 0x91)] with ppu := { dot := 455, ly := 143, mode := .hBlank, coinc := false } }
      ).ppuAdvance 1).io 0xFF0F = 0x01 := by decide
/-- P9. -/
theorem test_stat_write :
    (({ vector zeroCpu [] [(0xFF40, 0x91)] with ppu := Ppu.reset }).memWrite 0xFF41 0xFF).memRead 0xFF41 = 0xFE := by decide
/-- R473. -/
def composed : State :=
  vector zeroCpu [] [(0x8000, 0x3C), (0x8001, 0x7E), (0xFF40, 0x91), (0xFF47, 0xE4)]
theorem test_pixels :
    composed.pixel 0 0 = .shade 0 ∧ composed.pixel 1 0 = .shade 2 ∧ composed.pixel 2 0 = .shade 3 := by decide
/-- P11: a sprite over the background. -/
theorem test_sprite_pixel :
    (vector zeroCpu [] [(0x8000, 0x3C), (0x8001, 0x7E), (0x8021, 0x80), (0xFE00, 0x10), (0xFE01, 0x08), (0xFE02, 0x02),
      (0xFF40, 0x93), (0xFF47, 0xE4), (0xFF48, 0xE4)]).pixel 0 0 = .shade 2 := by decide
/-- A1 (E8). -/
theorem test_trigger :
    ((((vector zeroCpu [] []).memWrite 0xFF12 0xF0).memWrite 0xFF14 0x80).apu.ch1.vol, true) =
      ((15, (((vector zeroCpu [] []).memWrite 0xFF12 0xF0).memWrite 0xFF14 0x80).apu.ch1.en) : BitVec 4 × Bool) := by decide
/-- A9. -/
theorem test_mix :
    mix (ApuRegs.ofMemory (vector zeroCpu [] [(0xFF11, 0x80), (0xFF24, 0x30), (0xFF25, 0x11)]).mem)
      { Apu.reset with ch1 := { Channel.reset with en := true, vol := 15 } } = { left := 60, right := 15 } := by decide
/-- A5, the last cycle of the first sweep period. -/
theorem test_sweep :
    (sweepTick { nrx0 := 0x11, nrx1 := 0, nrx2 := 0, nrx4 := 0 } { Channel.reset with en := true, freq := 0x400 }
      { shadow := 0x400, stimer := 32767 }).2.shadow = 0x600 := by decide

/-! ## Witnesses: states and operands that meet the hypotheses of each obligation -/

theorem witness_DecodeOfEncode :
    (Instr.illegal 0xD3).wf = true ∧ (Instr.jpA16 0xFFFF).wf = true ∧ Instr.set7A.wf = true := by decide
theorem witness_EncodeOfDecode :
    decode [0xCD, 0x34, 0x12, 0x99] = .ok (.callA16 0x1234, [0x99]) ∧ decode [0xFD] = .ok (.illegal 0xFD, []) := by decide
theorem witness_IllegalBytesAreEleven : decodeOp 0xFD 0x00 0x00 = .illegal 0xFD := by decide

theorem witness_StepRunsDecodedInstruction :
    ∃ (s b : State) (i : Instr), b = s.atBoundary ∧ s.runs ∧ i.wf = true ∧ b.holdsAtPc i ∧ b.cpu.ime = .pending := by
  refine ⟨vector { zeroCpu with ime := .pending } [0xC3, 0x50, 0x01] [], _, .jpA16 0x0150, rfl, ⟨rfl, rfl⟩, rfl, ?_, rfl⟩
  unfold State.holdsAtPc
  decide
/-- The branch of an instruction that records a fault. -/
theorem witness_StepRunsDecodedInstruction_fault :
    ∃ (s b : State) (i : Instr), b = s.atBoundary ∧ s.runs ∧ i.wf = true ∧ b.holdsAtPc i ∧ i = .illegal 0xFD := by
  refine ⟨vector zeroCpu [0xFD] [], _, .illegal 0xFD, rfl, ⟨rfl, rfl⟩, rfl, ?_, rfl⟩
  unfold State.holdsAtPc
  decide
theorem witness_HaltedStepSkips :
    ∃ s b : State, b = s.atBoundary ∧ s.fault = none ∧ b.cpu.halted = true ∧ b.io 0xFFFF &&& 0x1F = 0 :=
  ⟨vector { zeroCpu with halted := true } [] [(0xFFFF, 0xE0)], _, rfl, rfl, rfl, by decide⟩
theorem witness_FaultedMachineTakesNoStep : ∃ (s : State) (r : FaultRecord), s.fault = some r :=
  ⟨{ vector zeroCpu [] [] with fault := some { op := 0xD3, addr := 0x0101 } }, _, rfl⟩
theorem witness_IllegalFetchFaults :
    ∃ s b : State, b = s.atBoundary ∧ s.runs ∧ b.memRead b.cpu.pc ∈ illegalOpcodes :=
  ⟨vector { zeroCpu with pc := 0xFFFF } [] [(0xFFFF, 0xD3)], _, rfl, ⟨rfl, rfl⟩, by decide⟩
theorem witness_StepIsTotal : ∃ s : State, s.fault = none := ⟨vector zeroCpu [] [], rfl⟩
theorem witness_InstructionsComplete : ∀ op, Instr.callA16 0x1234 ≠ .illegal op := by
  intro op h
  cases h
theorem witness_RegisterLoads : Reg8.b ≠ Reg8.a := by decide
theorem witness_AccumulatorLoads : ∃ hl : Word, hl.toNat = (0xFF * 256 + 0xFF + 1) % 65536 := ⟨0x0000, by decide⟩
theorem witness_ByteStores :
    (vector { zeroCpu with h := 0xA0 } [] []).plainAt 0xA000 = false ∧ (vector zeroCpu [] []).plainAt 0x8000 = true ∧
      (vector zeroCpu [] []).plainAt 0xFEFF = true ∧ (vector zeroCpu [] []).plainAt 0xFF80 = true ∧
      (vector zeroCpu [] []).plainAt 0xFF7F = false ∧ (vector zeroCpu [] []).plainAt 0xFFFF = true := by decide
theorem witness_StackPointerStore :
    (0xFFFE : Word) ≠ 0xFFFE + 1 ∧ (vector zeroCpu [] []).plainAt 0xFFFE = true ∧
      (vector zeroCpu [] []).plainAt (0xFFFE + 1) = true := by decide
theorem witness_PushThenPopRestores :
    ∃ s : State, s.plainAt (s.cpu.sp - 1) = true ∧ s.plainAt (s.cpu.sp - 2) = true :=
  ⟨vector { zeroCpu with sp := 0x0000 } [] [], by decide⟩
theorem witness_PushThenPopRestores_low :
    ∃ s : State, s.plainAt (s.cpu.sp - 1) = true ∧ s.plainAt (s.cpu.sp - 2) = true :=
  ⟨vector { zeroCpu with sp := 0x8002 } [] [], by decide⟩
theorem witness_IncDecMemory :
    ∃ (s : State) (v : Byte), v = s.memRead (joinBytes s.cpu.h s.cpu.l) ∧ v = 0xFF :=
  ⟨vector { zeroCpu with h := 0xC0 } [] [(0xC000, 0xFF)], _, rfl, by decide⟩
theorem witness_DecimalAdjust :
    bit (vector { zeroCpu with f := 0x00 } [] []).cpu.f 6 = false ∧
      bit (vector { zeroCpu with f := 0x40 } [] []).cpu.f 6 = true := by decide
theorem witness_conditions :
    (vector zeroCpu [] []).cond .nz = true ∧ (vector zeroCpu [] []).cond .z = false ∧
      (vector zeroCpu [] []).cond .nc = true ∧ (vector zeroCpu [] []).cond .c = false ∧
      (vector { zeroCpu with f := 0x90 } [] []).cond .nz = false ∧
      (vector { zeroCpu with f := 0x90 } [] []).cond .z = true ∧
      (vector { zeroCpu with f := 0x90 } [] []).cond .nc = false ∧
      (vector { zeroCpu with f := 0x90 } [] []).cond .c = true := by decide
theorem witness_Returns :
    ∃ (s : State) (target : Word), target = joinBytes (s.memRead (s.cpu.sp + 1)) (s.memRead s.cpu.sp) ∧ target = 0x2000 :=
  ⟨vector { zeroCpu with sp := 0xFFFC } [] [(0xFFFD, 0x20)], _, rfl, by decide⟩
theorem witness_SystemInstructions :
    (vector zeroCpu [] []).cpu.ime = .disabled ∧
      (vector { zeroCpu with ime := .pending } [] []).cpu.ime ≠ .disabled ∧
      (vector { zeroCpu with ime := .enabled } [] []).cpu.ime ≠ .disabled := by decide
theorem witness_EnableInterruptsDelay_ei :
    ∃ s b : State, b = s.atBoundary ∧ s.runs ∧ b.cpu.ime = .disabled ∧ b.memRead b.cpu.pc = 0xFB :=
  ⟨vector zeroCpu [0xFB] [], _, rfl, ⟨rfl, rfl⟩, rfl, by decide⟩
theorem witness_EnableInterruptsDelay_nop :
    ∃ s b : State, b = s.atBoundary ∧ s.runs ∧ b.cpu.ime = .pending ∧ b.memRead b.cpu.pc = 0x00 :=
  ⟨vector { zeroCpu with ime := .pending } [0x00] [], _, rfl, ⟨rfl, rfl⟩, rfl, by decide⟩
theorem witness_ServiceTakesLowestSource_none :
    ∃ (s : State) (p : Byte), p = s.io 0xFF0F &&& s.io 0xFFFF &&& 0x1F ∧ p = 0 :=
  ⟨vector { zeroCpu with ime := .enabled } [] [(0xFF0F, 0xE0), (0xFFFF, 0xFF)], _, rfl, by decide⟩
theorem witness_ServiceTakesLowestSource_wake :
    ∃ (s : State) (p : Byte), p = s.io 0xFF0F &&& s.io 0xFFFF &&& 0x1F ∧ s.cpu.ime ≠ .enabled ∧ p ≠ 0 :=
  ⟨vector { zeroCpu with ime := .pending, halted := true } [] [(0xFF0F, 0x10), (0xFFFF, 0x10)], _, rfl, by decide,
    by decide⟩
theorem witness_ServiceTakesLowestSource_dispatch :
    ∃ (s : State) (p : Byte), p = s.io 0xFF0F &&& s.io 0xFFFF &&& 0x1F ∧ s.cpu.ime = .enabled ∧ p ≠ 0 :=
  ⟨vector { zeroCpu with ime := .enabled } [] [(0xFF0F, 0x10), (0xFFFF, 0x10)], _, rfl, rfl, by decide⟩
/-- Both ends of the four control regions. -/
theorem witness_CartridgeBanking : mbc1State.cart.mapper = .mbc1 ∧ (vector zeroCpu [] []).cart.mapper = .romOnly := ⟨rfl, rfl⟩
theorem witness_CartridgeBanking_regions :
    (0x0000 : Word).toNat < 0x8000 ∧ (0x1FFF : Word).toNat < 0x2000 ∧ 0x2000 ≤ (0x2000 : Word).toNat ∧
      (0x3FFF : Word).toNat < 0x4000 ∧ 0x4000 ≤ (0x4000 : Word).toNat ∧ (0x5FFF : Word).toNat < 0x6000 ∧
      0x6000 ≤ (0x6000 : Word).toNat ∧ (0x7FFF : Word).toNat < 0x8000 := by decide
theorem witness_ExternalRam_absent :
    ∃ (s : State) (off : Nat), 0xA000 ≤ (0xBFFF : Word).toNat ∧ (0xBFFF : Word).toNat < 0xC000 ∧
      off = (if s.mbc.mode then s.mbc.bankHi.toNat else 0) * 0x2000 + ((0xBFFF : Word).toNat - 0xA000) ∧
      ¬ (s.cart.mapper = .mbc1 ∧ s.mbc.ramEn = true ∧ off < s.cart.eramBytes) :=
  ⟨{ mbc1State with mbc := { Mbc1.reset with ramEn := true, bankHi := 1, mode := true } }, _, by decide, by decide, rfl,
    by decide⟩
theorem witness_ExternalRam_present :
    ∃ (s : State) (off : Nat), 0xA000 ≤ (0xBFFF : Word).toNat ∧ (0xBFFF : Word).toNat < 0xC000 ∧
      off = (if s.mbc.mode then s.mbc.bankHi.toNat else 0) * 0x2000 + ((0xBFFF : Word).toNat - 0xA000) ∧
      s.cart.mapper = .mbc1 ∧ s.mbc.ramEn = true ∧ off < s.cart.eramBytes :=
  ⟨{ mbc1State with mbc := { Mbc1.reset with ramEn := true } }, _, by decide, by decide, rfl, rfl, rfl, by decide⟩
/-- A source page that overlaps nothing, and OAM's own page. -/
theorem witness_OamDmaCopies :
    ∃ s t u : State, t = s.memWrite 0xFF46 0xFE ∧ u = s.store .m 0xFF46 0xFE :=
  ⟨vector zeroCpu [] [(0xFE00, 0x01)], _, _, rfl, rfl⟩
theorem witness_PalettePorts :
    bit ((vector zeroCpu [] [(0xFF68, 0xBF)]).io 0xFF68) 7 = true ∧
      bit ((vector zeroCpu [] [(0xFF6A, 0x3F)]).io 0xFF6A) 7 = false := by decide

/-- A timer with the given TAC and TIMA. -/
def timerState (tac tima : Byte) : State := vector zeroCpu [] [(0xFF05, tima), (0xFF06, 0x42), (0xFF07, tac)]

theorem witness_TimerAndDivider_stopped : bit ((timerState 0x03 0xFF).io 0xFF07) 2 = false := by decide
/-- Each of the four periods, with TIMA about to overflow and not. -/
theorem witness_TimerAndDivider_running :
    ∀ c ∈ ([(0x04, 1024), (0x05, 16), (0x06, 64), (0x07, 256)] : List (Byte × Nat)),
      bit ((timerState c.1 0xFF).io 0xFF07) 2 = true ∧
      (c.2 = match ((timerState c.1 0xFF).io 0xFF07).toNat % 4 with | 0 => 1024 | 1 => 16 | 2 => 64 | _ => 256) ∧
      (timerState c.1 0xFF).io 0xFF05 = 0xFF ∧ (timerState c.1 0xFE).io 0xFF05 ≠ 0xFF := by decide

/-- The PPU at a place of the frame. -/
def placed (dot ly : Nat) : Ppu := { dot := dot, ly := ly, mode := PpuMode.at dot ly, coinc := false }

theorem placed_legal (dot ly : Nat) (hd : dot < 456) (hl : ly < 154) : (placed dot ly).Legal := ⟨hd, hl, rfl⟩

theorem witness_PpuPosition :
    ∃ s : State, s.ppu.Legal ∧ s.ppu.place = 70223 :=
  ⟨{ vector zeroCpu [] [] with ppu := placed 455 153 }, placed_legal 455 153 (by decide) (by decide), rfl⟩
theorem witness_PpuRequests_vblank : (placed 455 143).Legal ∧ (placed 455 143).entersVBlank ∧
    (placed 455 143).entersEnableBit 4 :=
  ⟨placed_legal 455 143 (by decide) (by decide), ⟨rfl, rfl⟩, Or.inr (Or.inl ⟨rfl, rfl, rfl⟩)⟩
theorem witness_PpuRequests_hblank : (placed 251 143).Legal ∧ ¬ (placed 251 143).entersVBlank ∧
    (placed 251 143).entersEnableBit 3 :=
  ⟨placed_legal 251 143 (by decide) (by decide), fun h => absurd h.2 (by decide), Or.inl ⟨rfl, by decide, rfl⟩⟩
theorem witness_PpuRequests_oam : (placed 455 153).Legal ∧ (placed 455 153).entersEnableBit 5 ∧
    (placed 455 142).Legal ∧ (placed 455 142).entersEnableBit 5 :=
  ⟨placed_legal 455 153 (by decide) (by decide), Or.inr (Or.inr ⟨rfl, rfl, Or.inr rfl⟩),
    placed_legal 455 142 (by decide) (by decide), Or.inr (Or.inr ⟨rfl, rfl, Or.inl (by decide)⟩)⟩
theorem witness_LcdOffRequestsNothing : bit ((vector zeroCpu [] [(0xFF40, 0x7F)]).io 0xFF40) 7 = false := by decide
theorem witness_FrameShape :
    ∃ s : State, s.cart.colorMode = false ∧ bit (s.io 0xFF40) 0 = false ∧ bit (s.io 0xFF40) 1 = false :=
  ⟨vector zeroCpu [] [(0xFF40, 0x90)], rfl, by decide, by decide⟩
theorem witness_SampleClock :
    ∃ s : State, s.launch.Legal ∧ s.apu.acc < 4194304 ∧ s.apu.batch.length < s.launch.batchSize :=
  ⟨{ vector zeroCpu [] [] with apu := { Apu.reset with acc := 4194303 } },
    ⟨by decide, by decide, by decide⟩, by decide, by decide⟩
theorem witness_ChannelLength :
    Channel.reset.en = false ∧ ({ Channel.reset with en := true }).en = true ∧
      bit ({ nrx0 := 0, nrx1 := 0x3F, nrx2 := 0, nrx4 := 0x40 } : ChannelRegs).nrx4 6 = true ∧
      bit ({ nrx0 := 0, nrx1 := 0x3F, nrx2 := 0, nrx4 := 0xBF } : ChannelRegs).nrx4 6 = false := by decide
theorem witness_ChannelTrigger : bit (0x80 : Byte) 7 = true ∧ bit (0x7F : Byte) 7 = false := by decide

/-- A launch of the image, with the smallest audio parameters R8 allows. -/
def launchOf (rom : Option (List Byte)) : LaunchParams :=
  { rom := rom, saveRam := none, initM := [(0xFF48, 0x5A)], initVram1 := [], initWramx := [], initBgpal := [],
    initObjpal := [], sampleRate := 1, batchSize := 1, input := [] }

/-- An image of the shortest length R553 allows, with the three header bytes given. -/
def imageOf (cgb cartType ramSize : Byte) : List Byte :=
  List.replicate 0x143 0 ++ [cgb, 0, 0, 0, cartType, 0, ramSize, 0, 0, 0, 0, 0, 0]

theorem witness_LoadRefusals_missing : (launchOf none).rom = none := rfl
theorem witness_LoadRefusals_short : (List.replicate 0x14F (0 : Byte)).length < 0x150 := by decide +kernel
theorem witness_LoadRefusals_type :
    0x150 ≤ (imageOf 0 4 0).length ∧ 3 < ((imageOf 0 4 0).getD 0x147 0).toNat := by decide +kernel
theorem witness_LoadRefusals_size :
    0x150 ≤ (imageOf 0 3 6).length ∧ ((imageOf 0 3 6).getD 0x147 0).toNat ≤ 3 ∧
      5 < ((imageOf 0 3 6).getD 0x149 0).toNat := by decide +kernel
theorem witness_LoadRefusals_loads :
    0x150 ≤ (imageOf 0x80 3 5).length ∧ ((imageOf 0x80 3 5).getD 0x147 0).toNat ≤ 3 ∧
      ((imageOf 0x80 3 5).getD 0x149 0).toNat ≤ 5 := by decide +kernel
/-- The load of `p` builds a machine, in the mode `c`. -/
def loadsInMode (p : LaunchParams) (c : Bool) : Bool :=
  match load p with
  | .next s => s.cart.colorMode == c
  | _ => false

theorem loads_of_check (p : LaunchParams) (c : Bool) (h : loadsInMode p c = true) :
    ∃ s, load p = .next s ∧ s.cart.colorMode = c := by
  unfold loadsInMode at h
  split at h
  · exact ⟨_, by assumption, by simpa using h⟩
  · cases h

theorem witness_ResetState_mono :
    ∃ (p : LaunchParams), p.ok = true ∧ ∃ s, load p = .next s ∧ s.cart.colorMode = false :=
  ⟨launchOf (some (imageOf 0x00 0 0)), rfl, loads_of_check _ _ (by decide +kernel)⟩
theorem witness_ResetState_color :
    ∃ (p : LaunchParams), p.ok = true ∧ ∃ s, load p = .next s ∧ s.cart.colorMode = true :=
  ⟨launchOf (some (imageOf 0xC0 3 5)), rfl, loads_of_check _ _ (by decide +kernel)⟩
theorem witness_InvariantKept : ∃ s t : State, s.Inv ∧ step s = .next t := by
  refine ⟨{ vector zeroCpu [0x00] [] with ppu := placed 0 0 }, _, ?_, rfl⟩
  exact ⟨by decide, by decide, by decide, by decide, placed_legal 0 0 (by decide) (by decide), by decide, by decide,
    ⟨by decide, by decide, by decide⟩⟩
theorem witness_SessionConstants : ∃ s t : State, step s = .next t := ⟨vector zeroCpu [0x00] [], _, rfl⟩
theorem witness_FlagAndControlWriters :
    ∃ (i : Instr) (s t : State), i.wf = true ∧ exec i s = .next t ∧ ¬ WritesFlags i ∧ i ≠ .halt ∧ i ≠ .ei ∧ i ≠ .di ∧
      i ≠ .reti := by
  refine ⟨.nop, vector zeroCpu [] [], _, rfl, rfl, ?_, by decide, by decide, by decide, by decide⟩
  rintro (⟨op, r, h⟩ | ⟨op, h⟩ | ⟨op, n8, h⟩ | ⟨r, h⟩ | ⟨r, h⟩ | h | h | h | h | h | h | h | h | h | h | ⟨p, h⟩ | ⟨e8, h⟩ |
    ⟨e8, h⟩ | h | ⟨op, r, h⟩ | ⟨op, h⟩ | ⟨b, r, h⟩ | ⟨b, h⟩)
  all_goals first | exact absurd h (by simp) | skip
  · cases op <;> cases r <;> cases h
  · cases op <;> cases h
  · cases op <;> cases h
  · cases r <;> cases h
  · cases r <;> cases h
  · cases p <;> cases h
  · cases op <;> cases r <;> cases h
  · cases op <;> cases h
  · fin_cases b <;> cases r <;> cases h
  · fin_cases b <;> cases h

end Sys2Proof.Tests
end

section
/-! SUPPORT. The machine a load builds (70_reset_and_hazards.md rules R550 to R553): the bytes of a list of cells written in
order, the inversion of `load`, the fields of `resetMachine`, and the read values its registers show. -/

namespace Sys2Proof.Machine

/-! ## Cells written in order -/

/-- An address that no cell lists keeps its byte. -/
theorem Mem.get_foldl_set_of_notMem (cells : List Host.Cell) (m : Mem) (a : Nat) (h : a ∉ cells.map Prod.fst) :
    (cells.foldl (fun m c => Mem.set m c.1 c.2) m).get a = m.get a := by
  induction cells generalizing m with
  | nil => rfl
  | cons c rest ih =>
    obtain ⟨hhead, hrest⟩ : a ≠ c.1 ∧ a ∉ rest.map Prod.fst := by simpa using h
    rw [List.foldl_cons, ih _ hrest, Mem.get_set, if_neg hhead.symm]

/-- A listed address holds its cell's byte when no address is listed twice. -/
theorem Mem.get_foldl_set_of_mem (cells : List Host.Cell) (m : Mem) (c : Host.Cell) (hc : c ∈ cells)
    (hnd : (cells.map Prod.fst).Nodup) : (cells.foldl (fun m c => Mem.set m c.1 c.2) m).get c.1 = c.2 := by
  induction cells generalizing m with
  | nil => cases hc
  | cons d rest ih =>
    obtain ⟨hd, hrest⟩ := List.nodup_cons.mp hnd
    rw [List.foldl_cons]
    rcases List.mem_cons.mp hc with rfl | hc
    · rw [Mem.get_foldl_set_of_notMem _ _ _ hd, Mem.get_set, if_pos rfl]
    · exact ih _ hc hrest

/-- R551 lists no address twice. -/
theorem resetTable_nodup : (resetTable.map Prod.fst).Nodup := by decide

/-! ## The load -/

/-- A load that builds a machine has an image of at least 0x150 bytes with a header of R112, and builds its reset machine. -/
theorem load_eq_next {p : LaunchParams} {s : State} (h : load p = .next s) :
    ∃ rom mapper ramBytes, p.rom = some rom ∧ 0x150 ≤ rom.length ∧ mapperOf (rom.getD 0x0147 0) = some mapper ∧
      ramBytesOf (rom.getD 0x0149 0) = some ramBytes ∧ s = resetMachine p rom (cartridgeOf rom mapper ramBytes) := by
  unfold load at h
  split at h
  · cases h
  next rom hrom =>
    split at h
    · cases h
    next hlen =>
      split at h
      · cases h
      · cases h
      next mapper ramBytes hmapper hram =>
        cases h
        exact ⟨rom, mapper, ramBytes, hrom, Nat.le_of_not_lt hlen, hmapper, hram, rfl⟩

/-! ## The reset machine -/

section
variable (p : LaunchParams) (rom : List Byte) (cart : Cartridge)

theorem resetMachine_cpu_of_mono (h : cart.colorMode = false) : (resetMachine p rom cart).cpu = Cpu.resetMono := by
  simp [resetMachine, h]

theorem resetMachine_cpu_of_color (h : cart.colorMode = true) : (resetMachine p rom cart).cpu = Cpu.resetColor := by
  simp [resetMachine, h]

/-- The rows of R39 that do not depend on the mode. -/
theorem resetMachine_cpu_control :
    (resetMachine p rom cart).cpu.sp = 0xFFFE ∧ (resetMachine p rom cart).cpu.pc = 0x0100 ∧
      (resetMachine p rom cart).cpu.ime = .disabled ∧ (resetMachine p rom cart).cpu.halted = false := by
  cases h : cart.colorMode with
  | false => rw [resetMachine_cpu_of_mono p rom cart h]; exact ⟨rfl, rfl, rfl, rfl⟩
  | true => rw [resetMachine_cpu_of_color p rom cart h]; exact ⟨rfl, rfl, rfl, rfl⟩

@[simp] theorem resetMachine_mbc : (resetMachine p rom cart).mbc = Mbc1.reset := rfl
@[simp] theorem resetMachine_divider : (resetMachine p rom cart).divider = 0 := rfl
@[simp] theorem resetMachine_ppu : (resetMachine p rom cart).ppu = Ppu.reset := rfl
@[simp] theorem resetMachine_pressed : (resetMachine p rom cart).pressed = 0 := rfl
@[simp] theorem resetMachine_fault : (resetMachine p rom cart).fault = none := rfl

@[simp] theorem resetMachine_mem_m : (resetMachine p rom cart).mem.m = resetM p.initM := by rw [resetMachine]

theorem resetMachine_io (a : Nat) : (resetMachine p rom cart).io a = (resetM p.initM).get a := by
  rw [State.io, Memory.get, Memory.array, resetMachine_mem_m]

/-- R551: a byte of the table has its reset value. -/
theorem resetMachine_io_of_mem (c : Host.Cell) (hc : c ∈ resetTable) : (resetMachine p rom cart).io c.1 = c.2 := by
  rw [resetMachine_io, resetM, Mem.get_foldl_set_of_mem _ _ c hc resetTable_nodup]

/-- R550: every other byte of `M` is the initial memory's. -/
theorem resetMachine_io_of_notMem (a : Nat) (ha : a ∉ resetTable.map Prod.fst) :
    (resetMachine p rom cart).io a = (Mem.ofCells 0x10000 p.initM).get a := by
  rw [resetMachine_io, resetM, Mem.get_foldl_set_of_notMem _ _ _ ha]

/-! ## Read values after reset -/

/-- A plain byte of the table reads as its reset value. -/
theorem resetMachine_memRead_of_mem (a : Word) (v : Byte) (hc : (a.toNat, v) ∈ resetTable) (h0 : 0xE000 ≤ a.toNat)
    (h : ¬ SpecialRead a.toNat) : (resetMachine p rom cart).memRead a = v := by
  rw [State.memRead_m _ _ (.inr ⟨h0, h⟩)]
  exact resetMachine_io_of_mem p rom cart (a.toNat, v) hc

/-- STAT: mode 2 with the LCD on, and the coincidence bit (R62). -/
theorem resetMachine_memRead_stat : (resetMachine p rom cart).memRead 0xFF41 = 0x86 := by
  have hstat : (resetMachine p rom cart).io 0xFF41 = 0x80 := resetMachine_io_of_mem p rom cart (_, _) (by decide)
  have hlcdc : (resetMachine p rom cart).io 0xFF40 = 0x91 := resetMachine_io_of_mem p rom cart (_, _) (by decide)
  rw [State.memRead_high _ _ (by decide)]
  show State.statRead _ = _
  rw [State.statRead, State.modeField, hstat, hlcdc, resetMachine_ppu]
  decide

/-- P1: neither group is selected and no button is held (R41). -/
theorem resetMachine_memRead_p1 : (resetMachine p rom cart).memRead 0xFF00 = 0xFF := by
  have hp1 : (resetMachine p rom cart).io 0xFF00 = 0xFF := resetMachine_io_of_mem p rom cart (_, _) (by decide)
  rw [State.memRead_high _ _ (by decide)]
  show State.joypadRead _ = _
  rw [State.joypadRead, hp1, resetMachine_pressed]
  decide

theorem resetMachine_memRead_ly : (resetMachine p rom cart).memRead 0xFF44 = 0 :=
  State.memRead_high _ 0xFF44 (by decide)

theorem resetMachine_memRead_div : (resetMachine p rom cart).memRead 0xFF04 = 0 :=
  (State.memRead_high _ 0xFF04 (by decide)).trans (by decide : hiByte 0 = 0)

end

/-! ## The obligation -/

/-- Settles O56: the load answers a reset machine only, whose fields, stored bytes and read values the lemmas above give. -/
theorem resetState : Obligations.ResetState := by
  intro p s hload
  obtain ⟨rom, mapper, ramBytes, -, -, -, -, rfl⟩ := load_eq_next hload
  generalize cartridgeOf rom mapper ramBytes = cart
  obtain ⟨hsp, hpc, hime, hhalted⟩ := resetMachine_cpu_control p rom cart
  have hread := resetMachine_memRead_of_mem p rom cart
  refine ⟨hsp, hpc, hime, hhalted, fun h => ?mono, fun h => ?color, resetMachine_mbc p rom cart,
    resetMachine_divider p rom cart, resetMachine_ppu p rom cart, rfl, rfl, rfl, rfl, resetMachine_pressed p rom cart,
    resetMachine_fault p rom cart, resetMachine_io_of_mem p rom cart, resetMachine_io_of_notMem p rom cart,
    resetMachine_memRead_stat p rom cart, resetMachine_memRead_p1 p rom cart, ?_, ?_, ?_, ?_,
    resetMachine_memRead_ly p rom cart, resetMachine_memRead_div p rom cart⟩
  case mono => rw [resetMachine_cpu_of_mono p rom cart h]; decide
  case color => rw [resetMachine_cpu_of_color p rom cart h]; decide
  all_goals exact hread _ _ (by decide) (by decide) (by unfold SpecialRead; decide)

end Sys2Proof.Machine
end

section
/-! SUPPORT. Cartridge banking (20_memory.md rules R121, R131, R132): the fields a control write leaves, one lemma per MBC1
field, and the image byte each ROM window shows. -/

namespace Sys2Proof.Machine

/-! ## Control writes -/

/-- Masking with the low `k` bits is the remainder modulo `2 ^ k`. -/
theorem toNat_and_lowMask (v : Byte) (k : Nat) (hk : k ≤ 8) :
    (v &&& BitVec.ofNat 8 (2 ^ k - 1)).toNat = v.toNat % 2 ^ k := by
  have hmask : 2 ^ k - 1 < 2 ^ 8 := by
    have := Nat.pow_le_pow_right (n := 2) (by decide) hk
    omega
  rw [BitVec.toNat_and, BitVec.toNat_ofNat, Nat.mod_eq_of_lt hmask, Nat.and_two_pow_sub_one_eq_mod]

theorem and_0F_eq_0A_iff (v : Byte) : v &&& 0x0F = 0x0A ↔ v.toNat % 16 = 0x0A := by
  have hmask : (v &&& 0x0F).toNat = v.toNat % 16 := toNat_and_lowMask v 4 (by decide)
  rw [← BitVec.toNat_inj, hmask]
  rfl

theorem and_1F_eq_zero_iff (v : Byte) : v &&& 0x1F = 0 ↔ v.toNat % 32 = 0 := by
  have hmask : (v &&& 0x1F).toNat = v.toNat % 32 := toNat_and_lowMask v 5 (by decide)
  rw [← BitVec.toNat_inj, hmask]
  rfl

section
variable (a : Nat) (v : Byte) (mbc : Mbc1)

theorem mbc1Write_ramEn :
    (mbc1Write a v mbc).ramEn = if a < 0x2000 then decide (v.toNat % 16 = 0x0A) else mbc.ramEn := by
  simp only [mbc1Write, apply_ite Mbc1.ramEn, ite_self, and_0F_eq_0A_iff]

theorem mbc1Write_bankLo :
    (mbc1Write a v mbc).bankLo.toNat =
      if 0x2000 ≤ a ∧ a < 0x4000 then (if v.toNat % 32 = 0 then 1 else v.toNat % 32) else mbc.bankLo.toNat := by
  simp only [mbc1Write, apply_ite Mbc1.bankLo, apply_ite BitVec.toNat, ite_self, and_1F_eq_zero_iff,
    BitVec.toNat_setWidth]
  by_cases h : a < 0x2000
  · rw [if_pos h, if_neg (by omega)]
  · simp [h, Nat.not_lt.mp h]

theorem mbc1Write_bankHi :
    (mbc1Write a v mbc).bankHi.toNat = if 0x4000 ≤ a ∧ a < 0x6000 then v.toNat % 4 else mbc.bankHi.toNat := by
  simp only [mbc1Write, apply_ite Mbc1.bankHi, apply_ite BitVec.toNat, BitVec.toNat_setWidth]
  by_cases h : a < 0x4000
  · simp [h]
  · simp [h, Nat.not_lt.mp h, show ¬ a < 0x2000 by omega]

theorem mbc1Write_mode : (mbc1Write a v mbc).mode = if 0x6000 ≤ a then bit v 0 else mbc.mode := by
  simp only [mbc1Write, apply_ite Mbc1.mode]
  by_cases h : a < 0x6000
  · simp [h]
  · simp [h, show ¬ a < 0x2000 by omega, show ¬ a < 0x4000 by omega]

end

/-- R132: a ROM-only cartridge ignores control writes. -/
theorem State.mapperWrite_of_romOnly (s : State) (a : Nat) (v : Byte) (h : s.cart.mapper = .romOnly) :
    s.mapperWrite a v = s := by
  simp only [State.mapperWrite, h]

/-- R131: with MBC1 a control write changes the bank registers and nothing else. -/
theorem State.mapperWrite_of_mbc1 (s : State) (a : Nat) (v : Byte) (h : s.cart.mapper = .mbc1) :
    s.mapperWrite a v = { s with mbc := mbc1Write a v s.mbc } := by
  simp only [State.mapperWrite, h]

/-! ## The ROM windows -/

theorem State.romOffset_of_romOnly (s : State) (a : Nat) (h : s.cart.mapper = .romOnly) : s.romOffset a = a := by
  simp only [State.romOffset, h]

/-- R121: window 0 shows bank 0 whatever the MBC1 registers hold. -/
theorem State.romOffset_low (s : State) (a : Nat) (h : s.cart.mapper = .mbc1) (ha : a < 0x4000) : s.romOffset a = a := by
  simp only [State.romOffset, h, if_pos ha]

/-- R121: window N shows the bank that the mode and the bank fields name. -/
theorem State.romOffset_high (s : State) (a : Nat) (h : s.cart.mapper = .mbc1) (ha : ¬ a < 0x4000) :
    s.romOffset a =
      (if s.mbc.mode then s.mbc.bankLo.toNat else s.mbc.bankHi.toNat * 32 + s.mbc.bankLo.toNat) * 0x4000
        + (a - 0x4000) := by
  simp only [State.romOffset, h, if_neg ha]

/-- A bus read of the ROM windows is the image byte at the offset, 0xFF past the image. -/
theorem State.memRead_of_romOffset {s : State} {a : Word} {o : Nat} (ha : a.toNat < 0x8000)
    (ho : s.romOffset a.toNat = o) : s.memRead a = if o < s.cart.romLen then s.mem.get .rom o else 0xFF := by
  rw [State.memRead_rom _ _ ha, State.romRead, ho]

/-- Settles O42: a control write is `mapperWrite`, whose fields and ROM windows the lemmas above give per mapper. -/
theorem cartridgeBanking : Obligations.CartridgeBanking := by
  intro s t addr v haddr ht
  rw [State.memWrite_rom _ _ _ haddr] at ht
  constructor
  · intro hmap
    rw [State.mapperWrite_of_romOnly _ _ _ hmap] at ht
    subst ht
    exact ⟨rfl, fun a ha => State.memRead_of_romOffset ha (t.romOffset_of_romOnly _ hmap)⟩
  · intro hmap
    rw [State.mapperWrite_of_mbc1 _ _ _ hmap] at ht
    subst ht
    refine ⟨rfl, mbc1Write_ramEn _ v _, mbc1Write_bankLo _ v _, mbc1Write_bankHi _ v _, mbc1Write_mode _ v _, ?_⟩
    intro a bank ha hbank
    subst hbank
    by_cases hlow : a.toNat < 0x4000
    · rw [if_pos hlow]
      exact State.memRead_of_romOffset ha (State.romOffset_low _ _ hmap hlow)
    · rw [if_neg hlow]
      exact State.memRead_of_romOffset ha (State.romOffset_high _ _ hmap hlow)

end Sys2Proof.Machine
end

section
/-! SUPPORT. External RAM (20_memory.md rule R122): when an address reaches it, and both bus accesses in each case. -/

namespace Sys2Proof.Machine

/-- R122: the RAM is reached exactly with MBC1, RAMEN set and an offset inside it. -/
theorem State.eramReaches_iff (s : State) (a : Nat) :
    s.eramReaches a = true ↔ s.cart.mapper = .mbc1 ∧ s.mbc.ramEn = true ∧ s.eramOffset a < s.cart.eramBytes := by
  simp only [State.eramReaches, State.eramOn, Bool.and_eq_true, decide_eq_true_eq]
  constructor
  · rintro ⟨⟨⟨hmap, hen⟩, -⟩, hoff⟩
    exact ⟨hmap, hen, hoff⟩
  · rintro ⟨hmap, hen, hoff⟩
    exact ⟨⟨⟨hmap, hen⟩, Nat.zero_lt_of_lt hoff⟩, hoff⟩

section
variable {s : State} {addr : Word} (h0 : 0xA000 ≤ addr.toNat) (h1 : addr.toNat < 0xC000)
include h0 h1

/-- An address of external RAM that the banking reaches is plain storage (R108). -/
theorem State.plainAt_of_eramReaches (h : s.eramReaches addr.toNat = true) : s.plainAt addr = true := by
  simp only [State.plainAt, h, Bool.or_true, Bool.and_true, Bool.and_eq_true, Bool.or_eq_true, decide_eq_true_eq]
  omega

/-- R122: RAM that is off, absent or too small reads 0xFF and drops writes. -/
theorem State.eram_access_of_not_reaches (v : Byte) (h : ¬ s.eramReaches addr.toNat = true) :
    s.memRead addr = 0xFF ∧ s.memWrite addr v = s :=
  ⟨by rw [State.memRead_eram _ _ h0 h1, if_neg h], by rw [State.memWrite_eram _ _ _ h0 h1, if_neg h]⟩

/-- R122: RAM that is reached is read and written at the offset. -/
theorem State.eram_access_of_reaches (v : Byte) (h : s.eramReaches addr.toNat = true) :
    s.memRead addr = s.mem.get .eram (s.eramOffset addr.toNat) ∧
      s.memWrite addr v = s.store .eram (s.eramOffset addr.toNat) v ∧ (s.memWrite addr v).memRead addr = v :=
  ⟨by rw [State.memRead_eram _ _ h0 h1, if_pos h], by rw [State.memWrite_eram _ _ _ h0 h1, if_pos h],
    (s.memWrite_plain_read addr v (State.plainAt_of_eramReaches h0 h1 h)).1⟩

end

/-- Settles O43: the two cases are whether the banking reaches the RAM at the address. -/
theorem externalRam : Obligations.ExternalRam := by
  intro s addr v off h0 h1 hoff
  have hoffset : off = s.eramOffset addr.toNat := by
    unfold State.eramOffset
    exact hoff
  have hreach := s.eramReaches_iff addr.toNat
  rw [hoffset, ← hreach]
  exact ⟨State.eram_access_of_not_reaches h0 h1 v, fun hmap hen hlt =>
    State.eram_access_of_reaches h0 h1 v (hreach.mpr ⟨hmap, hen, hlt⟩)⟩

end Sys2Proof.Machine
end

section
/-! SUPPORT. OAM DMA (20_memory.md rule R135): the bytes already copied are never the source of a later byte, so every
byte is what the bus read before the copy. -/

namespace Sys2Proof.Machine

/-- A byte that the DMA stores is a bus write to plain storage, so no other address reads differently. -/
theorem State.memRead_setIo_oam (s : State) (i : Nat) (hi : i < 160) (v : Byte) (a : Word) (ha : a.toNat ≠ 0xFE00 + i) :
    (s.setIo (0xFE00 + i) v).memRead a = s.memRead a := by
  have hnat : (BitVec.ofNat 16 (0xFE00 + i)).toNat = 0xFE00 + i := by
    rw [BitVec.toNat_ofNat]
    omega
  have hwrite := s.memWrite_m (BitVec.ofNat 16 (0xFE00 + i)) v (by unfold SpecialWrite; omega)
  have hplain : s.plainAt (BitVec.ofNat 16 (0xFE00 + i)) = true := by
    simp only [State.plainAt, hnat, Bool.and_eq_true, Bool.or_eq_true, decide_eq_true_eq]
    omega
  rw [hnat] at hwrite
  rw [← hwrite]
  exact (s.memWrite_plain_read _ v hplain).2 a (fun h => ha (h ▸ hnat))

/-- The address the `i`-th byte comes from. -/
def dmaSource (page : Byte) (i : Nat) : Word := BitVec.ofNat 16 (page.toNat * 0x100 + i)

theorem dmaSource_toNat (page : Byte) (i : Nat) (hi : i < 160) : (dmaSource page i).toNat = page.toNat * 0x100 + i := by
  have := page.isLt
  rw [dmaSource, BitVec.toNat_ofNat]
  omega

theorem State.dmaRange_succ (s : State) (page : Byte) (n : Nat) :
    (List.range (n + 1)).foldl (State.dmaByte page) s =
      ((List.range n).foldl (State.dmaByte page) s).setIo (0xFE00 + n)
        (((List.range n).foldl (State.dmaByte page) s).memRead (dmaSource page n)) := by
  rw [List.range_succ, List.foldl_append]
  rfl

/-- After `n` bytes only the `n` OAM addresses copied so far can read differently. -/
theorem State.dmaRange_memRead (s : State) (page : Byte) (n : Nat) (hn : n ≤ 160) (a : Word)
    (ha : a.toNat < 0xFE00 ∨ 0xFE00 + n ≤ a.toNat) :
    ((List.range n).foldl (State.dmaByte page) s).memRead a = s.memRead a := by
  induction n with
  | zero => rfl
  | succ n ih =>
    rw [State.dmaRange_succ, State.memRead_setIo_oam _ n hn _ a (by omega)]
    exact ih (by omega) (by omega)

/-- The source of the next byte reads as before the copy: it lies outside OAM, or it is the very byte to be written. -/
theorem State.dmaRange_memRead_source (s : State) (page : Byte) (n : Nat) (hn : n < 160) :
    ((List.range n).foldl (State.dmaByte page) s).memRead (dmaSource page n) = s.memRead (dmaSource page n) := by
  apply State.dmaRange_memRead _ _ _ hn.le
  rw [dmaSource_toNat _ _ hn]
  omega

/-- Every OAM byte copied so far is what the bus read at its source before the copy. -/
theorem State.dmaRange_io (s : State) (page : Byte) (n : Nat) (hn : n ≤ 160) (i : Nat) (hi : i < n) :
    ((List.range n).foldl (State.dmaByte page) s).io (0xFE00 + i) = s.memRead (dmaSource page i) := by
  induction n with
  | zero => omega
  | succ n ih =>
    rw [State.dmaRange_succ, State.io_setIo]
    rcases Nat.lt_succ_iff_lt_or_eq.mp hi with hlt | rfl
    · rw [if_neg (by omega), ih (by omega) hlt]
    · rw [if_pos rfl, s.dmaRange_memRead_source page i hn]

/-- Settles O44: the write is a plain store followed by the DMA, whose frame and copied bytes the lemmas above give. -/
theorem oamDmaCopies : Obligations.OamDmaCopies := by
  rintro s t u v rfl rfl
  have hdma : s.memWrite 0xFF46 v = (s.setIo 0xFF46 v).oamDma v := s.memWrite_dma 0xFF46 v rfl
  rw [hdma]
  refine ⟨?fields, ?register, ?copied, ?frame⟩
  case fields => exact State.oamDma_fields _ v
  case register =>
    have hkept := (s.setIo 0xFF46 v).oamDma_other v .m 0xFF46 (by omega)
    exact hkept.trans ((s.io_setIo 0xFF46 0xFF46 v).trans (if_pos rfl))
  case copied => exact (s.setIo 0xFF46 v).dmaRange_io v 160 le_rfl
  case frame =>
    intro st o h
    rw [State.oamDma_other _ _ _ _ (fun hoam => h ⟨hoam.1, .inl hoam.2⟩), State.setIo_mem]
    exact Memory.get_set_other _ _ _ _ _ _ (fun hreg => h ⟨hreg.1.symm, .inr hreg.2.symm⟩)

end Sys2Proof.Machine
end

section
/-! SUPPORT. The 8-bit loads (40_load8.md rules R200 to R218): the frame of an update of registers alone and of a single bus
write, and from them what each shared load or store operation answers. -/

namespace Sys2Proof.Machine

/-! ## Registers-only updates -/

/-- A state that differs in CPU and cost alone meets the frame: no bus read looks at either. -/
theorem registersOnly_withCpu (s : State) (c : Cpu) (n : Nat) :
    RegistersOnly s c n { s with cpu := c, cycles := n } :=
  ⟨rfl, s.memRead_withCpu c n⟩

/-- A register write changes the CPU alone. -/
theorem State.setReg_eq_withCpu (s : State) (dst : Reg8) (v : Byte) :
    s.setReg dst v = { s with cpu := (s.setReg dst v).cpu } := by
  cases dst <;> rfl

theorem registersOnly_setReg_charge (s : State) (dst : Reg8) (v : Byte) (n : Nat) :
    RegistersOnly s ((s.setReg dst v).charge n).cpu n ((s.setReg dst v).charge n) := by
  have hcharge : (s.setReg dst v).charge n = { s with cpu := (s.setReg dst v).cpu, cycles := n } :=
    congrArg (State.charge · n) (s.setReg_eq_withCpu dst v)
  rw [hcharge]
  exact registersOnly_withCpu s _ n

theorem State.othersKept_setReg_charge (s : State) (dst : Reg8) (v : Byte) (n : Nat) :
    OthersKept dst s ((s.setReg dst v).charge n) :=
  fun r hr => s.setReg_reg_other dst r v hr

theorem State.controlKept_setReg_charge (s : State) (dst : Reg8) (v : Byte) (n : Nat) :
    ControlKept s ((s.setReg dst v).charge n) :=
  ⟨s.setReg_cpu_sp dst v, s.setReg_cpu_pc dst v, s.setReg_cpu_ime dst v, s.setReg_cpu_halted dst v⟩

/-- All that R200 to R202 say of a load of `v` into `dst`. -/
theorem setReg_charge_loads (s : State) (dst : Reg8) (v : Byte) (n : Nat) (t : State)
    (ht : t = (s.setReg dst v).charge n) :
    RegistersOnly s t.cpu n t ∧ t.reg dst = v ∧ OthersKept dst s t ∧ t.cpu.f = s.cpu.f ∧ ControlKept s t := by
  subst ht
  exact ⟨registersOnly_setReg_charge s dst v n, s.setReg_reg_same dst v, s.othersKept_setReg_charge dst v n,
    s.setReg_cpu_f dst v, s.controlKept_setReg_charge dst v n⟩

/-! ## Encodings of the register forms -/

theorem encode_ldRegReg (dst r : Reg8) :
    encode (Instr.ldRegReg dst r) = [BitVec.ofNat 8 (0x40 + 8 * dst.code + r.code)] := by
  cases dst <;> cases r <;> rfl

theorem encode_ldRegN8 (dst : Reg8) (n8 : Byte) :
    encode (Instr.ldRegN8 dst n8) = [BitVec.ofNat 8 (0x06 + 8 * dst.code), n8] := by
  cases dst <;> rfl

theorem encode_ldRegAtHl (dst : Reg8) : encode (Instr.ldRegAtHl dst) = [BitVec.ofNat 8 (0x46 + 8 * dst.code)] := by
  cases dst <;> rfl

theorem encode_ldAtHlReg (r : Reg8) : encode (Instr.ldAtHlReg r) = [BitVec.ofNat 8 (0x70 + r.code)] := by
  cases r <;> rfl

/-- Settles O11: each form is one register write, whose effect and frame `setReg_charge_loads` gives. -/
theorem registerLoads : Obligations.RegisterLoads := by
  intro dst r n8 s
  exact ⟨⟨encode_ldRegReg dst r, _, exec_ldRegReg dst r s, setReg_charge_loads s dst (s.reg r) 4 _ rfl⟩,
    ⟨encode_ldRegN8 dst n8, _, exec_ldRegN8 dst n8 s, setReg_charge_loads s dst n8 8 _ rfl⟩,
    ⟨encode_ldRegAtHl dst, _, exec_ldRegAtHl dst s, setReg_charge_loads s dst (s.memRead s.hl) 8 _ rfl⟩⟩

/-! ## Addresses -/

/-- R178: the sum of the high page cannot wrap. -/
theorem highPage_eq_ofNat (v : Byte) : highPage v = BitVec.ofNat 16 (0xFF00 + v.toNat) := by
  unfold highPage zext16
  bv_omega

/-- Moving HL is addition modulo 2^16. -/
theorem State.hl_add_toNat (s : State) (delta : Word) :
    (s.hl + delta).toNat = (s.cpu.h.toNat * 256 + s.cpu.l.toNat + delta.toNat) % 65536 := by
  rw [BitVec.toNat_add, State.hl, joinBytes_toNat]

/-! ## Loads of A -/

theorem loadA_registersOnly (addr : Word) (n : Nat) (s : State) :
    ∃ t, loadA addr n s = .next t ∧ RegistersOnly s { s.cpu with a := s.memRead addr } n t :=
  ⟨_, rfl, registersOnly_withCpu s _ n⟩

/-- The byte is read at the HL from before the move. -/
theorem loadAMoveHl_registersOnly (delta : Word) (s : State) :
    ∃ t hl, loadAMoveHl delta s = .next t ∧
      hl.toNat = (s.cpu.h.toNat * 256 + s.cpu.l.toNat + delta.toNat) % 65536 ∧
      RegistersOnly s { s.cpu with a := s.memRead s.hl, h := hiByte hl, l := loByte hl } 8 t :=
  ⟨_, s.hl + delta, rfl, s.hl_add_toNat delta, registersOnly_withCpu s _ 8⟩

/-- Settles O12: five forms are `loadA` at the form's address, the two moving ones `loadAMoveHl` by 1 and by -1. -/
theorem accumulatorLoads : Obligations.AccumulatorLoads := by
  intro a16 a8 s
  rw [← highPage_eq_ofNat a8, ← highPage_eq_ofNat s.cpu.c]
  exact ⟨⟨rfl, loadA_registersOnly s.bc 8 s⟩, ⟨rfl, loadA_registersOnly s.de 8 s⟩, ⟨rfl, loadA_registersOnly a16 16 s⟩,
    ⟨rfl, loadA_registersOnly (highPage a8) 12 s⟩, ⟨rfl, loadA_registersOnly (highPage s.cpu.c) 8 s⟩,
    ⟨rfl, loadAMoveHl_registersOnly 1 s⟩, ⟨rfl, loadAMoveHl_registersOnly (-1) s⟩⟩

/-! ## Stores -/

/-- A bus write followed by the charge keeps the CPU registers. -/
theorem storesByte_memWrite_charge (s : State) (addr : Word) (v : Byte) (n : Nat) :
    StoresByte s addr v s.cpu n ((s.memWrite addr v).charge n) := by
  have hcpu : (s.memWrite addr v).charge n = { s.memWrite addr v with cpu := s.cpu, cycles := n } := by
    rw [State.charge, ← s.memWrite_cpu addr v]
  rw [hcpu]
  exact storesByte_of s addr v s.cpu n

/-- A bus write, then a move of HL and the charge: HL alone changes among the registers. -/
theorem storesByte_memWrite_setHl_charge (s : State) (addr : Word) (v : Byte) (hl : Word) (n : Nat) :
    StoresByte s addr v { s.cpu with h := hiByte hl, l := loByte hl } n (((s.memWrite addr v).setHl hl).charge n) := by
  have hcpu : ((s.memWrite addr v).setHl hl).charge n =
      { s.memWrite addr v with cpu := { s.cpu with h := hiByte hl, l := loByte hl }, cycles := n } := by
    rw [State.charge, State.setHl, s.memWrite_cpu addr v]
  rw [hcpu]
  exact storesByte_of s addr v _ n

theorem storeA_storesByte (addr : Word) (n : Nat) (s : State) :
    ∃ t, storeA addr n s = .next t ∧ StoresByte s addr s.cpu.a s.cpu n t :=
  ⟨_, rfl, storesByte_memWrite_charge s addr s.cpu.a n⟩

/-- The byte is written at the HL from before the move. -/
theorem storeAMoveHl_storesByte (delta : Word) (s : State) :
    ∃ t hl, storeAMoveHl delta s = .next t ∧
      hl.toNat = (s.cpu.h.toNat * 256 + s.cpu.l.toNat + delta.toNat) % 65536 ∧
      StoresByte s s.hl s.cpu.a { s.cpu with h := hiByte hl, l := loByte hl } 8 t :=
  ⟨_, s.hl + delta, rfl, s.hl_add_toNat delta, storesByte_memWrite_setHl_charge s s.hl s.cpu.a _ 8⟩

/-- Settles O13: each form is one bus write at its address, and the two moving ones then move HL by 1 and by -1. -/
theorem byteStores : Obligations.ByteStores := by
  intro r n8 a8 a16 s
  rw [← highPage_eq_ofNat a8, ← highPage_eq_ofNat s.cpu.c]
  exact ⟨⟨encode_ldAtHlReg r, _, exec_ldAtHlReg r s, storesByte_memWrite_charge s s.hl (s.reg r) 8⟩,
    ⟨rfl, _, rfl, storesByte_memWrite_charge s s.hl n8 12⟩, ⟨rfl, storeA_storesByte s.bc 8 s⟩,
    ⟨rfl, storeA_storesByte s.de 8 s⟩, ⟨rfl, storeA_storesByte a16 16 s⟩, ⟨rfl, storeA_storesByte (highPage a8) 12 s⟩,
    ⟨rfl, storeA_storesByte (highPage s.cpu.c) 8 s⟩, ⟨rfl, storeAMoveHl_storesByte 1 s⟩,
    ⟨rfl, storeAMoveHl_storesByte (-1) s⟩⟩

end Sys2Proof.Machine
end

section
/-! SUPPORT. The 16-bit loads and the stack (41_load16_stack.md rules R230 to R237, and ADD SP,e8 of R293): what a write of
a pair, of the flags and of a stack pair leaves, and from them what each operation of the family answers. -/

namespace Sys2Proof.Machine

/-! ## Stack instructions (R234 to R237) -/

theorem encode_push (p : StackPair) : encode (Instr.push p) = [BitVec.ofNat 8 (0xC5 + 16 * p.code)] := by
  cases p <;> rfl

theorem encode_pop (p : StackPair) : encode (Instr.pop p) = [BitVec.ofNat 8 (0xC1 + 16 * p.code)] := by
  cases p <;> rfl

theorem State.hiByte_stackPair (s : State) (p : StackPair) : hiByte (s.stackPair p) = (s.cpu.stackBytes p).1 := by
  cases p <;> exact hiByte_joinBytes _ _

theorem State.loByte_stackPair (s : State) (p : StackPair) : loByte (s.stackPair p) = (s.cpu.stackBytes p).2 := by
  cases p <;> exact loByte_joinBytes _ _

/-- PUSH is `push16` of the pair, whose two bus writes `State.push16_eq` names. -/
theorem pushPair_storesTwoBytes (p : StackPair) (s : State) :
    ∃ t, pushPair p s = .next t ∧
      StoresTwoBytes s (s.cpu.sp - 1) (s.cpu.stackBytes p).1 (s.cpu.sp - 2) (s.cpu.stackBytes p).2
        { s.cpu with sp := s.cpu.sp - 2 } 16 t := by
  refine ⟨_, rfl, ?_⟩
  rw [State.push16_eq, s.hiByte_stackPair p, s.loByte_stackPair p]
  exact storesTwoBytes_of s _ _ _ _ _ 16

/-- Settles O17: `pushPair` stores the pair's two bytes by the two bus writes of `push16`. -/
theorem pushStoresHighByteFirst : Obligations.PushStoresHighByteFirst := by
  intro p s
  rw [exec_push p s]
  exact ⟨encode_push p, pushPair_storesTwoBytes p s⟩

/-- A write of a stack pair changes the CPU alone, and takes the two halves of the word. -/
theorem State.setStackPair_eq_withCpu (s : State) (p : StackPair) (v : Word) :
    s.setStackPair p v = { s with cpu := s.cpu.withPopped p (hiByte v) (loByte v) } := by
  cases p <;> rfl

/-- The low byte popped is the one at SP, the high byte the one above it. -/
theorem State.poppedWord_bytes (s : State) :
    hiByte s.poppedWord = s.memRead (s.cpu.sp + 1) ∧ loByte s.poppedWord = s.memRead s.cpu.sp :=
  ⟨hiByte_joinBytes _ _, loByte_joinBytes _ _⟩

theorem popPair_registersOnly (p : StackPair) (s : State) :
    ∃ t, popPair p s = .next t ∧
      RegistersOnly s
        ({ s.cpu with sp := s.cpu.sp + 2 }.withPopped p (s.memRead (s.cpu.sp + 1)) (s.memRead s.cpu.sp)) 12 t := by
  refine ⟨_, rfl, ?_⟩
  obtain ⟨hhi, hlo⟩ := s.poppedWord_bytes
  rw [State.setStackPair_eq_withCpu, hhi, hlo]
  exact registersOnly_withCpu s _ 12

/-- Settles O18: `popPair` changes the CPU alone, and the word it pops is the two bytes read at SP. -/
theorem popTakesLowByteFirst : Obligations.PopTakesLowByteFirst := by
  intro p s
  rw [exec_pop p s]
  exact ⟨encode_pop p, popPair_registersOnly p s⟩

@[simp] theorem Cpu.withPopped_sp (c : Cpu) (p : StackPair) (hi lo : Byte) : (c.withPopped p hi lo).sp = c.sp := by
  cases p <;> rfl

@[simp] theorem Cpu.stackBytes_withPopped (c : Cpu) (p : StackPair) (hi lo : Byte) :
    (c.withPopped p hi lo).stackBytes p = (hi, if p = .af then lo &&& 0xF0 else lo) := by
  cases p <;> rfl

/-- Settles O19: in plain storage the two bytes below SP read as PUSH stored them, and POP takes them from there. -/
theorem pushThenPopRestores : Obligations.PushThenPopRestores := by
  intro p q s h1 h2
  obtain ⟨t, hpush, ht, -, -, hread⟩ := pushPair_storesTwoBytes p s
  obtain ⟨u, hpop, hu, -⟩ := popPair_registersOnly q t
  have hne : s.cpu.sp - 1 ≠ s.cpu.sp - 2 := by bv_omega
  obtain ⟨hhi, hlo, -⟩ := hread hne h1 h2
  have hsp : t.cpu.sp = s.cpu.sp - 2 := by rw [ht]
  have hnext : s.cpu.sp - 2 + 1 = s.cpu.sp - 1 := by bv_omega
  have hback : s.cpu.sp - 2 + 2 = s.cpu.sp := by bv_omega
  rw [hsp, hnext, hback, hhi, hlo] at hu
  refine ⟨t, u, (exec_push p s).trans hpush, (exec_pop q t).trans hpop, ?_, ?_⟩
  · rw [hu, Cpu.withPopped_sp]
  · rw [hu, Cpu.stackBytes_withPopped]

/-! ## SP plus a signed displacement (R233, R293) -/

/-- The byte that `setFlags` leaves in F holds the four flags it was given and a low nibble of 0 (R33). -/
theorem State.flagsAre_setFlags (s : State) (fl : Flags) :
    FlagsAre (s.setFlags fl).cpu.f (fl.z = true) (fl.n = true) (fl.h = true) (fl.c = true) := by
  rw [State.setFlags_cpu_f]
  obtain ⟨z, n, h, c⟩ := fl
  unfold FlagsAre
  cases z <;> cases n <;> cases h <;> cases c <;> decide

/-- Equivalent claims about the flags may replace one another. -/
theorem FlagsAre.congr {f : Byte} {z n h c z' n' h' c' : Prop} (hf : FlagsAre f z n h c) (hz : z ↔ z') (hn : n ↔ n')
    (hh : h ↔ h') (hc : c ↔ c') : FlagsAre f z' n' h' c' := by
  obtain ⟨fz, fn, fh, fc, low⟩ := hf
  exact ⟨fz.trans hz, fn.trans hn, fh.trans hh, fc.trans hc, low⟩

/-- `sext_16` keeps the displacement's value modulo 2^16. -/
theorem sext16_toNat (e8 : Byte) : ((sext16 e8).toNat : Int) = e8.toInt % 65536 := by
  rw [sext16, BitVec.signExtend, BitVec.toNat_ofInt]
  exact Int.toNat_of_nonneg (Int.emod_nonneg _ (by decide))

theorem addSpE8_toNat (sp : Word) (e8 : Byte) :
    ((addSpE8 sp e8).1.toNat : Int) = ((sp.toNat : Int) + e8.toInt) % 65536 := by
  have hsum : (addSpE8 sp e8).1.toNat = (sp.toNat + (sext16 e8).toNat) % 65536 := BitVec.toNat_add _ _
  rw [hsum, Int.natCast_emod, Int.natCast_add, sext16_toNat]
  exact Int.add_emod_emod _ _ _

/-- The flags of the sum: the carries of the unsigned addition of the low bytes. -/
theorem State.flagsAre_addSpE8 (s : State) (sp : Word) (e8 : Byte) :
    FlagsAre (s.setFlags (addSpE8 sp e8).2).cpu.f False False (sp.toNat % 16 + e8.toNat % 16 > 0x0F)
      (sp.toNat % 256 + e8.toNat > 0xFF) :=
  (s.flagsAre_setFlags _).congr (iff_false_intro Bool.false_ne_true) (iff_false_intro Bool.false_ne_true)
    decide_eq_true_iff decide_eq_true_iff

/-- Settles O16: both forms write the result and the flags of the shared sum `addSpE8`. -/
theorem stackPointerPlusSigned : Obligations.StackPointerPlusSigned := by
  intro e8 s
  exact ⟨(addSpE8 s.cpu.sp e8).1, addSpE8_toNat s.cpu.sp e8,
    ⟨rfl, _, rfl, registersOnly_withCpu s _ 12, State.flagsAre_addSpE8 _ s.cpu.sp e8⟩,
    ⟨rfl, _, rfl, registersOnly_withCpu s _ 16, State.flagsAre_addSpE8 _ s.cpu.sp e8⟩⟩

/-! ## Loads of a pair and the store of SP (R230 to R232) -/

theorem encode_ldPairN16 (p : Pair) (n16 : Word) :
    encode (Instr.ldPairN16 p n16) = [BitVec.ofNat 8 (0x01 + 16 * p.code), loByte n16, hiByte n16] := by
  cases p <;> rfl

/-- A write of a pair changes the CPU alone. -/
theorem State.setPair_eq_withCpu (s : State) (p : Pair) (v : Word) :
    s.setPair p v = { s with cpu := s.cpu.withPair p v } := by
  cases p <;> rfl

theorem loadPairImm_registersOnly (p : Pair) (n16 : Word) (s : State) :
    ∃ t, loadPairImm p n16 s = .next t ∧ RegistersOnly s (s.cpu.withPair p n16) 12 t := by
  refine ⟨_, rfl, ?_⟩
  rw [State.setPair_eq_withCpu]
  exact registersOnly_withCpu s _ 12

/-- Settles O14: both loads change the CPU alone, one through `setPair`, the other through `setSp`. -/
theorem pairLoads : Obligations.PairLoads := by
  intro p n16 s
  rw [exec_ldPairN16 p n16 s]
  exact ⟨⟨encode_ldPairN16 p n16, loadPairImm_registersOnly p n16 s⟩, ⟨rfl, _, rfl, registersOnly_withCpu s _ 8⟩⟩

/-- `Write16` is two bus writes that keep the CPU registers. -/
theorem storesTwoBytes_write16_charge (s : State) (addr v : Word) (n : Nat) :
    StoresTwoBytes s addr (loByte v) (addr + 1) (hiByte v) s.cpu n ((s.write16 addr v).charge n) := by
  have hcpu : (s.write16 addr v).cpu = s.cpu := by rw [State.write16, State.memWrite_cpu, State.memWrite_cpu]
  have hcharge : (s.write16 addr v).charge n = { s.write16 addr v with cpu := s.cpu, cycles := n } := by
    rw [State.charge, ← hcpu]
  rw [hcharge]
  exact storesTwoBytes_of s _ _ _ _ s.cpu n

/-- Settles O15: the store is `write16` of SP. -/
theorem stackPointerStore : Obligations.StackPointerStore := by
  intro a16 s
  exact ⟨rfl, _, rfl, storesTwoBytes_write16_charge s a16 s.cpu.sp 20⟩

end Sys2Proof.Machine
end

section
/-! SUPPORT. The 8-bit arithmetic and logic (42_alu8.md rules R250 to R282): the result and the flags of each computation
in the numbers the rules use, the state each shared operation leaves, and from the two what every instruction answers. -/

namespace Sys2Proof.Machine

/-! ## The three operand forms (R250) -/

theorem AluForm.encode_instr (form : AluForm) (op : AluOp) : encode (form.instr op) = form.bytes op := by
  cases form with
  | reg r => cases op <;> cases r <;> rfl
  | atHl => cases op <;> rfl
  | imm n8 => cases op <;> rfl

/-- The three forms are one operation on the form's operand at the form's cost. -/
theorem AluForm.exec_instr (form : AluForm) (op : AluOp) (s : State) :
    exec (form.instr op) s = .next ((s.alu op (form.value s)).charge form.cost) := by
  cases form with
  | reg r => exact exec_aluReg op r s
  | atHl => exact exec_aluAtHl op s
  | imm n8 => exact exec_aluN8 op n8 s

/-- An ALU operation changes A and F alone. -/
theorem State.alu_charge_registersOnly (s : State) (op : AluOp) (v : Byte) (n : Nat) :
    RegistersOnly s { s.cpu with a := (aluResult op s.cpu.a v s.flags.c).1, f := (s.alu op v).cpu.f } n
      ((s.alu op v).charge n) :=
  registersOnly_withCpu s _ n

/-! ## ADD and ADC (R251 to R256) -/

theorem State.flagsAre_add8 (s : State) (a b : Byte) (ci : Bool) :
    FlagsAre (s.setFlags (add8 a b ci).2).cpu.f ((a.toNat + b.toNat + ci.toNat) % 256 = 0) False
      (a.toNat % 16 + b.toNat % 16 + ci.toNat > 0x0F) (a.toNat + b.toNat + ci.toNat > 0xFF) :=
  (s.flagsAre_setFlags _).congr decide_eq_true_iff (iff_false_intro Bool.false_ne_true) decide_eq_true_iff
    decide_eq_true_iff

/-- Settles O20: both operations are `add8`, ADD with the carry 0 and ADC with the carry of F. -/
theorem addWithAndWithoutCarry : Obligations.AddWithAndWithoutCarry := by
  intro form s
  exact ⟨⟨form.encode_instr .add, _, form.exec_instr .add s, s.alu_charge_registersOnly .add _ _,
      State.flagsAre_add8 _ s.cpu.a (form.value s) false⟩,
    ⟨form.encode_instr .adc, _, form.exec_instr .adc s, s.alu_charge_registersOnly .adc _ _,
      State.flagsAre_add8 _ s.cpu.a (form.value s) s.flags.c⟩⟩

/-! ## SUB, SBC and CP (R257 to R262, R272 to R274) -/

/-- `sub8` leaves the integer difference modulo 256. -/
theorem sub8_toNat (a b : Byte) (ci : Bool) :
    ((sub8 a b ci).1.toNat : Int) = ((a.toNat : Int) - b.toNat - ci.toNat) % 256 :=
  (congrArg Nat.cast (BitVec.toNat_ofInt _)).trans (Int.toNat_of_nonneg (Int.emod_nonneg _ (by decide)))

/-- A byte is 0 exactly when the integer it stands for is. -/
theorem byte_eq_zero_iff (v : Byte) : v = 0 ↔ (v.toNat : Int) = 0 := by
  rw [← BitVec.toNat_inj, Int.natCast_eq_zero]
  rfl

/-- The borrow out of bit 7: the integer difference is negative. -/
theorem sub_borrow_iff (a b ci : Nat) : (a : Int) - b - ci < 0 ↔ a < b + ci := by
  omega

theorem State.flagsAre_sub8 (s : State) (a b : Byte) (ci : Bool) :
    FlagsAre (s.setFlags (sub8 a b ci).2).cpu.f ((sub8 a b ci).1 = 0) True
      (a.toNat % 16 < b.toNat % 16 + ci.toNat) (a.toNat < b.toNat + ci.toNat) := by
  have hz : (sub8 a b ci).2.z = true ↔ (sub8 a b ci).1 = 0 := by
    rw [byte_eq_zero_iff, sub8_toNat]
    exact decide_eq_true_iff
  exact (s.flagsAre_setFlags _).congr hz (iff_true_intro rfl) decide_eq_true_iff
    (decide_eq_true_iff.trans (sub_borrow_iff _ _ _))

/-- Settles O21: both operations are `sub8`, SUB with the carry 0 and SBC with the carry of F. -/
theorem subtractWithAndWithoutBorrow : Obligations.SubtractWithAndWithoutBorrow := by
  intro form s
  have hsub := sub8_toNat s.cpu.a (form.value s) false
  rw [Bool.toNat_false, Int.natCast_zero, Int.sub_zero] at hsub
  exact ⟨⟨form.encode_instr .sub, _, _, form.exec_instr .sub s, hsub, s.alu_charge_registersOnly .sub _ _,
      State.flagsAre_sub8 _ s.cpu.a (form.value s) false⟩,
    ⟨form.encode_instr .sbc, _, _, form.exec_instr .sbc s, sub8_toNat s.cpu.a (form.value s) s.flags.c,
      s.alu_charge_registersOnly .sbc _ _, State.flagsAre_sub8 _ s.cpu.a (form.value s) s.flags.c⟩⟩

/-- Without a carry in, the difference is 0 exactly when the operands are equal. -/
theorem sub8_eq_zero_iff (a b : Byte) : (sub8 a b false).1 = 0 ↔ a = b := by
  rw [byte_eq_zero_iff, sub8_toNat, Bool.toNat_false, ← BitVec.toNat_inj]
  have ha := a.isLt
  have hb := b.isLt
  omega

/-- Settles O23: CP puts A back and takes the flags of `sub8`, whose result is 0 exactly when the operands are equal. -/
theorem compareSetsOnlyFlags : Obligations.CompareSetsOnlyFlags := by
  intro form s
  exact ⟨form.encode_instr .cp, _, form.exec_instr .cp s, s.alu_charge_registersOnly .cp _ _,
    (State.flagsAre_sub8 _ s.cpu.a (form.value s) false).congr (sub8_eq_zero_iff _ _) Iff.rfl Iff.rfl Iff.rfl⟩

/-! ## AND, XOR and OR (R263 to R271) -/

theorem State.flagsAre_logic8 (s : State) (res : Byte) (h : Bool) :
    FlagsAre (s.setFlags (logic8 res h).2).cpu.f (res = 0) False (h = true) False :=
  (s.flagsAre_setFlags _).congr decide_eq_true_iff (iff_false_intro Bool.false_ne_true) Iff.rfl
    (iff_false_intro Bool.false_ne_true)

/-- XOR and OR clear H. -/
theorem State.flagsAre_logic8_clearH (s : State) (res : Byte) :
    FlagsAre (s.setFlags (logic8 res false).2).cpu.f (res = 0) False False False :=
  (s.flagsAre_logic8 res false).congr Iff.rfl Iff.rfl (iff_false_intro Bool.false_ne_true) Iff.rfl

/-- AND sets H. -/
theorem State.flagsAre_logic8_setH (s : State) (res : Byte) :
    FlagsAre (s.setFlags (logic8 res true).2).cpu.f (res = 0) False True False :=
  (s.flagsAre_logic8 res true).congr Iff.rfl Iff.rfl (iff_true_intro rfl) Iff.rfl

/-- Settles O22: each operation is one bitwise operation of the library on A and the operand. -/
theorem bitwiseLogic : Obligations.BitwiseLogic := by
  intro form s
  exact ⟨⟨form.encode_instr .and, _, _, form.exec_instr .and s, fun i _ => BitVec.getLsbD_and,
      s.alu_charge_registersOnly .and _ _, State.flagsAre_logic8_setH _ _⟩,
    ⟨form.encode_instr .xor, _, _, form.exec_instr .xor s, fun i _ => BitVec.getLsbD_xor,
      s.alu_charge_registersOnly .xor _ _, State.flagsAre_logic8_clearH _ _⟩,
    ⟨form.encode_instr .or, _, _, form.exec_instr .or s, fun i _ => BitVec.getLsbD_or,
      s.alu_charge_registersOnly .or _ _, State.flagsAre_logic8_clearH _ _⟩⟩

/-! ## INC and DEC (R275 to R278) -/

theorem inc8_toNat (v : Byte) (old : Flags) : (inc8 v old).1.toNat = (v.toNat + 1) % 256 := BitVec.toNat_add v 1

theorem dec8_toNat (v : Byte) (old : Flags) : (dec8 v old).1.toNat = (v.toNat + 255) % 256 :=
  (BitVec.toNat_sub v 1).trans (congrArg (· % 256) (Nat.add_comm 255 v.toNat))

theorem byte_add_one_eq_zero_iff (v : Byte) : v + 1 = 0 ↔ v.toNat = 0xFF := by
  bv_omega

theorem byte_sub_one_eq_zero_iff (v : Byte) : v - 1 = 0 ↔ v.toNat = 1 := by
  bv_omega

theorem State.flagsAre_inc8 (s : State) (v : Byte) (old : Flags) :
    FlagsAre (s.setFlags (inc8 v old).2).cpu.f (v.toNat = 0xFF) False (v.toNat % 16 = 0x0F) (old.c = true) :=
  (s.flagsAre_setFlags _).congr (decide_eq_true_iff.trans (byte_add_one_eq_zero_iff v))
    (iff_false_intro Bool.false_ne_true) decide_eq_true_iff Iff.rfl

theorem State.flagsAre_dec8 (s : State) (v : Byte) (old : Flags) :
    FlagsAre (s.setFlags (dec8 v old).2).cpu.f (v.toNat = 1) True (v.toNat % 16 = 0) (old.c = true) :=
  (s.flagsAre_setFlags _).congr (decide_eq_true_iff.trans (byte_sub_one_eq_zero_iff v)) (iff_true_intro rfl)
    decide_eq_true_iff Iff.rfl

theorem encode_incReg (r : Reg8) : encode (Instr.incReg r) = [BitVec.ofNat 8 (0x04 + 8 * r.code)] := by
  cases r <;> rfl

theorem encode_decReg (r : Reg8) : encode (Instr.decReg r) = [BitVec.ofNat 8 (0x05 + 8 * r.code)] := by
  cases r <;> rfl

/-- No register operand of R173 is F. -/
@[simp] theorem State.setFlags_reg (s : State) (fl : Flags) (r : Reg8) : (s.setFlags fl).reg r = s.reg r := by
  cases r <;> rfl

/-- What a read-modify-write of a register leaves: the register written and F are all that changes. -/
theorem modifyReg_frame (f : Byte → Flags → Byte × Flags) (r : Reg8) (n : Nat) (s : State) :
    ∃ t, modifyReg f r n s = .next t ∧ RegistersOnly s t.cpu n t ∧ t.reg r = (f (s.reg r) s.flags).1 ∧
      OthersKept r s t ∧ ControlKept s t ∧ t.cpu.f = (s.setFlags (f (s.reg r) s.flags).2).cpu.f := by
  set p := f (s.reg r) s.flags
  have hcpu : ((s.setReg r p.1).setFlags p.2).charge n =
      { s with cpu := ((s.setReg r p.1).setFlags p.2).cpu, cycles := n } :=
    congrArg (fun u => (u.setFlags p.2).charge n) (s.setReg_eq_withCpu r p.1)
  refine ⟨_, rfl, ?_, ?_, ?_, ?_, rfl⟩
  · rw [hcpu]
    exact registersOnly_withCpu s _ n
  · exact (State.setFlags_reg _ _ r).trans (s.setReg_reg_same r p.1)
  · exact fun r' hr => (State.setFlags_reg _ _ r').trans (s.setReg_reg_other r r' p.1 hr)
  · exact s.controlKept_setReg_charge r p.1 n

/-- Settles O24: both are one `modifyReg`, of `inc8` and of `dec8`. -/
theorem incDecRegister : Obligations.IncDecRegister := by
  intro r s
  rw [exec_incReg r s, exec_decReg r s]
  obtain ⟨t, hinc, hregs, hval, hothers, hcontrol, hf⟩ := modifyReg_frame inc8 r 4 s
  obtain ⟨u, hdec, uregs, uval, uothers, ucontrol, uf⟩ := modifyReg_frame dec8 r 4 s
  refine ⟨⟨encode_incReg r, t, hinc, hregs, ?_, hothers, hcontrol, ?_⟩,
    ⟨encode_decReg r, u, hdec, uregs, ?_, uothers, ucontrol, ?_⟩⟩
  · rw [hval, inc8_toNat]
  · rw [hf]
    exact s.flagsAre_inc8 (s.reg r) s.flags
  · rw [uval, dec8_toNat]
  · rw [uf]
    exact s.flagsAre_dec8 (s.reg r) s.flags

/-- A read-modify-write at HL is one bus write of the result; F alone changes among the registers. -/
theorem storesByte_memWrite_setFlags_charge (s : State) (addr : Word) (v : Byte) (fl : Flags) (n : Nat) :
    StoresByte s addr v { s.cpu with f := (s.setFlags fl).cpu.f } n (((s.memWrite addr v).setFlags fl).charge n) := by
  have hcpu : ((s.memWrite addr v).setFlags fl).charge n =
      { s.memWrite addr v with cpu := { s.cpu with f := (s.setFlags fl).cpu.f }, cycles := n } := by
    rw [State.charge, State.setFlags, State.setF, s.memWrite_cpu addr v]
    rfl
  rw [hcpu]
  exact storesByte_of s addr v _ n

/-- Settles O25: both are one `modifyAtHl`, of `inc8` and of `dec8`. -/
theorem incDecMemory : Obligations.IncDecMemory := by
  intro s v hv
  subst hv
  exact ⟨⟨rfl, _, _, rfl, inc8_toNat _ s.flags, storesByte_memWrite_setFlags_charge s s.hl _ _ 12,
      State.flagsAre_inc8 _ _ s.flags⟩,
    ⟨rfl, _, _, rfl, dec8_toNat _ s.flags, storesByte_memWrite_setFlags_charge s s.hl _ _ 12,
      State.flagsAre_dec8 _ _ s.flags⟩⟩

/-! ## DAA, CPL, SCF and CCF (R279 to R282) -/

/-- The carry of DAA after an addition, and the high correction with it. -/
theorem daaAdd_carry_iff (a : Byte) (old : Flags) : (daaAdd a old).2 = true ↔ old.c = true ∨ a.toNat > 0x99 := by
  simp only [daaAdd, Bool.or_eq_true, decide_eq_true_iff]

theorem daaAdd_amount (a : Byte) (old : Flags) :
    (daaAdd a old).1 = (if old.c = true ∨ a.toNat > 0x99 then 0x60 else 0) +
      (if old.h = true ∨ a.toNat % 16 > 0x09 then 0x06 else 0) := by
  simp only [daaAdd, Bool.or_eq_true, decide_eq_true_iff]

/-- DAA after an addition adds the amount of `daaAdd` and takes its carry. -/
theorem daa8_of_add (a : Byte) (old : Flags) (hn : old.n = false) :
    daa8 a old = (BitVec.ofNat 8 (a.toNat + (daaAdd a old).1),
      { z := decide (BitVec.ofNat 8 (a.toNat + (daaAdd a old).1) = 0), n := false, h := false,
        c := (daaAdd a old).2 }) :=
  if_neg (by rw [hn]; exact Bool.false_ne_true)

/-- DAA after a subtraction subtracts the corrections of C and H, and keeps C. -/
theorem daa8_of_sub (a : Byte) (old : Flags) (hn : old.n = true) :
    daa8 a old = (a - (if old.c then 0x60 else 0) - (if old.h then 0x06 else 0),
      { z := decide (a - (if old.c then 0x60 else 0) - (if old.h then 0x06 else 0) = 0), n := true, h := false,
        c := old.c }) :=
  if_pos hn

theorem daa8_toNat_of_add (a : Byte) (old : Flags) (hn : old.n = false) :
    (daa8 a old).1.toNat = (a.toNat + (if old.c = true ∨ a.toNat > 0x99 then 0x60 else 0) +
      (if old.h = true ∨ a.toNat % 16 > 0x09 then 0x06 else 0)) % 256 := by
  rw [daa8_of_add a old hn, BitVec.toNat_ofNat, daaAdd_amount, Nat.add_assoc]

/-- Two subtractions of bytes are the integer subtractions modulo 256. -/
theorem byte_sub_sub_toNat (x y z : Byte) :
    ((x - y - z).toNat : Int) = ((x.toNat : Int) - y.toNat - z.toNat) % 256 := by
  bv_omega

theorem daa8_toNat_of_sub (a : Byte) (old : Flags) (hn : old.n = true) :
    ((daa8 a old).1.toNat : Int) = ((a.toNat : Int) - (if old.c = true then 0x60 else 0) -
      (if old.h = true then 0x06 else 0)) % 256 := by
  rw [daa8_of_sub a old hn, byte_sub_sub_toNat]
  cases old.c <;> cases old.h <;> rfl

theorem State.flagsAre_daa8_of_add (s : State) (a : Byte) (old : Flags) (hn : old.n = false) :
    FlagsAre (s.setFlags (daa8 a old).2).cpu.f ((daa8 a old).1 = 0) False False
      (old.c = true ∨ a.toNat > 0x99) := by
  rw [daa8_of_add a old hn]
  exact (s.flagsAre_setFlags _).congr decide_eq_true_iff (iff_false_intro Bool.false_ne_true)
    (iff_false_intro Bool.false_ne_true) (daaAdd_carry_iff a old)

theorem State.flagsAre_daa8_of_sub (s : State) (a : Byte) (old : Flags) (hn : old.n = true) :
    FlagsAre (s.setFlags (daa8 a old).2).cpu.f ((daa8 a old).1 = 0) True False (old.c = true) := by
  rw [daa8_of_sub a old hn]
  exact (s.flagsAre_setFlags _).congr decide_eq_true_iff (iff_true_intro rfl) (iff_false_intro Bool.false_ne_true)
    Iff.rfl

/-- Settles O26: the N of before picks the branch of `daa8`. -/
theorem decimalAdjust : Obligations.DecimalAdjust := by
  intro s
  exact ⟨rfl, _, _, rfl, registersOnly_withCpu s _ 4,
    fun hn => ⟨daa8_toNat_of_add s.cpu.a s.flags hn, State.flagsAre_daa8_of_add _ s.cpu.a s.flags hn⟩,
    fun hn => ⟨daa8_toNat_of_sub s.cpu.a s.flags hn, State.flagsAre_daa8_of_sub _ s.cpu.a s.flags hn⟩⟩

/-- Exclusive or with 0xFF complements every bit. -/
theorem xor_ff_toNat (v : Byte) : (v ^^^ 0xFF).toNat = 255 - v.toNat :=
  (congrArg BitVec.toNat (BitVec.xor_allOnes (x := v))).trans BitVec.toNat_not

/-- Settles O27: each is one operation on A and the flags, whose four new flags are read off its definition. -/
theorem complementAndCarry : Obligations.ComplementAndCarry := by
  intro s
  have hcpl := (s.setA (s.cpu.a ^^^ 0xFF)).flagsAre_setFlags { s.flags with n := true, h := true }
  have hscf := (s.setA s.cpu.a).flagsAre_setFlags { s.flags with n := false, h := false, c := true }
  have hccf := (s.setA s.cpu.a).flagsAre_setFlags { s.flags with n := false, h := false, c := !s.flags.c }
  exact ⟨⟨rfl, _, _, rfl, xor_ff_toNat s.cpu.a, registersOnly_withCpu s _ 4,
      hcpl.congr Iff.rfl (iff_true_intro rfl) (iff_true_intro rfl) Iff.rfl⟩,
    ⟨rfl, _, rfl, registersOnly_withCpu s _ 4,
      hscf.congr Iff.rfl (iff_false_intro Bool.false_ne_true) (iff_false_intro Bool.false_ne_true)
        (iff_true_intro rfl)⟩,
    ⟨rfl, _, rfl, registersOnly_withCpu s _ 4,
      hccf.congr Iff.rfl (iff_false_intro Bool.false_ne_true) (iff_false_intro Bool.false_ne_true)
        (iff_of_eq (Bool.not_eq_true' _))⟩⟩

end Sys2Proof.Machine
end

section
/-! SUPPORT. The 16-bit arithmetic (43_alu16.md rules R290 to R292): the sum and the flags of ADD HL,rr in the numbers the
rules use, and what a pair moved by a constant leaves. -/

namespace Sys2Proof.Machine

/-! ## ADD HL,rr (R290) -/

theorem encode_addHlPair (p : Pair) : encode (Instr.addHlPair p) = [BitVec.ofNat 8 (0x09 + 16 * p.code)] := by
  cases p <;> rfl

theorem addHl16_toNat (hl rr : Word) (old : Flags) : (addHl16 hl rr old).1.toNat = (hl.toNat + rr.toNat) % 65536 :=
  BitVec.toNat_ofNat _ _

theorem State.flagsAre_addHl16 (s : State) (hl rr : Word) (old : Flags) :
    FlagsAre (s.setFlags (addHl16 hl rr old).2).cpu.f (old.z = true) False
      (hl.toNat % 4096 + rr.toNat % 4096 > 0x0FFF) (hl.toNat + rr.toNat > 0xFFFF) :=
  (s.flagsAre_setFlags _).congr Iff.rfl (iff_false_intro Bool.false_ne_true) decide_eq_true_iff decide_eq_true_iff

/-- ADD HL,rr changes H, L and F alone: the sum of `addHl16` goes to HL and its flags to F. -/
theorem addHl_registersOnly (p : Pair) (s : State) :
    ∃ t, addHl p s = .next t ∧
      RegistersOnly s { s.cpu with
        h := hiByte (addHl16 s.hl (s.pair p) s.flags).1, l := loByte (addHl16 s.hl (s.pair p) s.flags).1,
        f := t.cpu.f } 8 t ∧
      t.cpu.f = (s.setFlags (addHl16 s.hl (s.pair p) s.flags).2).cpu.f :=
  ⟨_, rfl, registersOnly_withCpu s _ 8, rfl⟩

/-- Settles O28: the sum and the flags are those of `addHl16`, with HL and the pair as they were before. -/
theorem addToHl : Obligations.AddToHl := by
  intro p s
  obtain ⟨t, hadd, hregs, hf⟩ := addHl_registersOnly p s
  refine ⟨encode_addHlPair p, t, _, (exec_addHlPair p s).trans hadd, addHl16_toNat s.hl (s.pair p) s.flags, hregs, ?_⟩
  rw [hf]
  exact s.flagsAre_addHl16 s.hl (s.pair p) s.flags

/-! ## INC rr and DEC rr (R291, R292) -/

theorem encode_incPair (p : Pair) : encode (Instr.incPair p) = [BitVec.ofNat 8 (0x03 + 16 * p.code)] := by
  cases p <;> rfl

theorem encode_decPair (p : Pair) : encode (Instr.decPair p) = [BitVec.ofNat 8 (0x0B + 16 * p.code)] := by
  cases p <;> rfl

/-- A pair moved by `delta` modulo 2^16 changes that pair alone, F included among what stays. -/
theorem movePair_registersOnly (p : Pair) (delta : Word) (s : State) :
    ∃ t v, movePair p delta s = .next t ∧ v.toNat = ((s.pair p).toNat + delta.toNat) % 65536 ∧
      RegistersOnly s (s.cpu.withPair p v) 8 t := by
  refine ⟨_, s.pair p + delta, rfl, BitVec.toNat_add _ _, ?_⟩
  rw [State.setPair_eq_withCpu]
  exact registersOnly_withCpu s _ 8

/-- Settles O29: both are one `movePair`, by 1 and by -1, whose value modulo 2^16 is 65535. -/
theorem incDecPair : Obligations.IncDecPair := by
  intro p s
  rw [exec_incPair p s, exec_decPair p s]
  exact ⟨⟨encode_incPair p, movePair_registersOnly p 1 s⟩, ⟨encode_decPair p, movePair_registersOnly p (-1) s⟩⟩

end Sys2Proof.Machine
end

section
/-! SUPPORT. The rotates, shifts and single-bit operations (44_rotate_shift_bit.md rules R310 to R336): where each shift
and each mask puts a bit, and from them what every instruction of the family answers. -/

namespace Sys2Proof.Machine

/-! ## Bits of masked and shifted bytes -/

theorem bit_or (v w : Byte) (i : Nat) : bit (v ||| w) i = (bit v i || bit w i) := BitVec.getLsbD_or

theorem bit_and (v w : Byte) (i : Nat) : bit (v &&& w) i = (bit v i && bit w i) := BitVec.getLsbD_and

theorem bit_of_ge (v : Byte) (i : Nat) (hi : 8 ≤ i) : bit v i = false := BitVec.getLsbD_of_ge v i hi

theorem bit_bitMask (b i : Nat) (hi : i < 8) : bit (bitMask b) i = decide (i = b) := by
  have hbit : bit (bitMask b) i = (decide (b < 8) && decide (b = i)) := BitVec.getLsbD_twoPow b i
  rw [hbit, ← Bool.decide_and, decide_eq_decide]
  constructor
  · exact fun ⟨_, hb⟩ => hb.symm
  · exact fun hb => ⟨hb ▸ hi, hb.symm⟩

/-- A flag put in place of bit `b`, the others 0. -/
theorem bit_flagBit_bitMask (c : Bool) (b i : Nat) (hi : i < 8) :
    bit (flagBit c (bitMask b)) i = (c && decide (i = b)) := by
  cases c with
  | false => exact BitVec.getLsbD_zero
  | true => exact bit_bitMask b i hi

theorem bit_shiftLeft_one (v : Byte) (i : Nat) (hi : i < 8) :
    bit (v <<< 1) i = if i = 0 then false else bit v (i - 1) := by
  rw [bit, BitVec.getLsbD_shiftLeft, decide_eq_true hi, Bool.true_and]
  cases i with
  | zero => rfl
  | succ j => rfl

theorem bit_ushiftRight_one (v : Byte) (i : Nat) : bit (v >>> 1) i = if i = 7 then false else bit v (i + 1) := by
  rw [bit, BitVec.getLsbD_ushiftRight, Nat.add_comm, ← bit]
  split
  next h7 => exact bit_of_ge v (i + 1) (by omega)
  next => rfl

/-- A byte moved one bit up with `c` put into bit 0. -/
theorem bit_shiftLeft_or_flagBit (v : Byte) (c : Bool) (i : Nat) (hi : i < 8) :
    bit ((v <<< 1) ||| flagBit c 0x01) i = if i = 0 then c else bit v (i - 1) := by
  have hc : bit (flagBit c 0x01) i = (c && decide (i = 0)) := bit_flagBit_bitMask c 0 i hi
  rw [bit_or, bit_shiftLeft_one v i hi, hc]
  split <;> simp [*]

/-- A byte moved one bit down with `c` put into bit 7. -/
theorem bit_ushiftRight_or_flagBit (v : Byte) (c : Bool) (i : Nat) (hi : i < 8) :
    bit ((v >>> 1) ||| flagBit c 0x80) i = if i = 7 then c else bit v (i + 1) := by
  have hc : bit (flagBit c 0x80) i = (c && decide (i = 7)) := bit_flagBit_bitMask c 7 i hi
  rw [bit_or, bit_ushiftRight_one v i, hc]
  split <;> simp [*]

/-- A byte moved one bit down with its bit 7 kept: the mask 0x80 is bit 7 alone. -/
theorem bit_ushiftRight_or_and_80 (v : Byte) (i : Nat) (hi : i < 8) :
    bit ((v >>> 1) ||| (v &&& 0x80)) i = if i = 7 then bit v 7 else bit v (i + 1) := by
  have hm : bit 0x80 i = decide (i = 7) := bit_bitMask 7 i hi
  rw [bit_or, bit_ushiftRight_one v i, bit_and, hm]
  split <;> simp [*]

/-- The two nibbles exchanged: the low half of the result comes from the right shift, the high half from the left one. -/
theorem bit_swapNibbles (v : Byte) (i : Nat) (hi : i < 8) : bit ((v <<< 4) ||| (v >>> 4)) i = bit v ((i + 4) % 8) := by
  have hup : bit (v <<< 4) i = (!decide (i < 4) && bit v (i - 4)) := by
    rw [bit, BitVec.getLsbD_shiftLeft, decide_eq_true hi, Bool.true_and, bit]
  have hdown : bit (v >>> 4) i = bit v (4 + i) := BitVec.getLsbD_ushiftRight v 4 i
  rw [bit_or, hup, hdown]
  by_cases h : i < 4
  · have hmod : (i + 4) % 8 = 4 + i := by omega
    simp [h, hmod]
  · have hmod : (i + 4) % 8 = i - 4 := by omega
    have hout : bit v (4 + i) = false := bit_of_ge v (4 + i) (by omega)
    simp [h, hmod, hout]

theorem bit_resetBit (v : Byte) (b i : Nat) (hi : i < 8) :
    bit (resetBit v b) i = (decide (i ≠ b) && bit v i) := by
  have hnot : bit (~~~(bitMask b)) i = !decide (i = b) := by
    rw [bit, BitVec.getLsbD_not, decide_eq_true hi, Bool.true_and, ← bit, bit_bitMask b i hi]
  rw [resetBit, bit_and, hnot, Bool.and_comm, decide_not]

theorem bit_setBit (v : Byte) (b i : Nat) (hi : i < 8) : bit (setBit v b) i = (decide (i = b) || bit v i) := by
  rw [setBit, bit_or, bit_bitMask b i hi, Bool.or_comm]

/-! ## Results and flags of the rotates and shifts (R310 to R330) -/

/-- Seven operations move every bit by one place and fill the free one; SWAP exchanges the nibbles. -/
theorem rotate8_rotated (op : RotOp) (v : Byte) (ci : Bool) : Rotated op v ci (rotate8 op v ci).1 := by
  intro i hi
  cases op with
  | rlc => exact bit_shiftLeft_or_flagBit v (bit v 7) i hi
  | rrc => exact bit_ushiftRight_or_flagBit v (bit v 0) i hi
  | rl => exact bit_shiftLeft_or_flagBit v ci i hi
  | rr => exact bit_ushiftRight_or_flagBit v ci i hi
  | sla => exact bit_shiftLeft_one v i hi
  | sra => exact bit_ushiftRight_or_and_80 v i hi
  | swap => exact bit_swapNibbles v i hi
  | srl => exact bit_ushiftRight_one v i

theorem rotate8_carry (op : RotOp) (v : Byte) (ci : Bool) : (rotate8 op v ci).2 = rotatedCarry op v := by
  cases op <;> rfl

/-- The CB forms take Z from the result. -/
theorem State.flagsAre_rotResult (s : State) (op : RotOp) (v : Byte) (ci : Bool) :
    FlagsAre (s.setFlags (rotResult op v ci).2).cpu.f ((rotResult op v ci).1 = 0) False False
      (rotatedCarry op v = true) :=
  (s.flagsAre_setFlags _).congr decide_eq_true_iff (iff_false_intro Bool.false_ne_true)
    (iff_false_intro Bool.false_ne_true) (iff_of_eq (congrArg (· = true) (rotate8_carry op v ci)))

/-- The accumulator forms clear Z. -/
theorem State.flagsAre_rotAccResult (s : State) (op : RotOp) (v : Byte) (ci : Bool) :
    FlagsAre (s.setFlags (rotAccResult op v ci).2).cpu.f False False False (rotatedCarry op v = true) :=
  (s.flagsAre_setFlags _).congr (iff_false_intro Bool.false_ne_true) (iff_false_intro Bool.false_ne_true)
    (iff_false_intro Bool.false_ne_true) (iff_of_eq (congrArg (· = true) (rotate8_carry op v ci)))

/-! ## Accumulator rotates (R310 to R313) -/

/-- An accumulator rotate puts every bit of A where the operation says, and changes A and F alone. -/
theorem rotateA_rotates (op : RotOp) (s : State) :
    ∃ t w, rotateA op s = .next t ∧ Rotated op s.cpu.a (bit s.cpu.f 4) w ∧
      RegistersOnly s { s.cpu with a := w, f := t.cpu.f } 4 t ∧
      FlagsAre t.cpu.f False False False (rotatedCarry op s.cpu.a = true) :=
  ⟨_, _, rfl, rotate8_rotated op s.cpu.a _, registersOnly_withCpu s _ 4, State.flagsAre_rotAccResult _ op s.cpu.a _⟩

/-- Settles O30: each is `rotateA` of one operation, whose carry out is bit 7 or bit 0 by definition. -/
theorem accumulatorRotates : Obligations.AccumulatorRotates := by
  intro s
  exact ⟨⟨rfl, rotateA_rotates .rlc s⟩, ⟨rfl, rotateA_rotates .rrc s⟩, ⟨rfl, rotateA_rotates .rl s⟩,
    ⟨rfl, rotateA_rotates .rr s⟩⟩

/-! ## CB rotates and shifts (R315 to R330) -/

theorem encode_rotReg (op : RotOp) (r : Reg8) :
    encode (Instr.rotReg op r) = [0xCB, BitVec.ofNat 8 (8 * op.code + r.code)] := by
  cases op <;> cases r <;> rfl

theorem encode_rotAtHl (op : RotOp) : encode (Instr.rotAtHl op) = [0xCB, BitVec.ofNat 8 (8 * op.code + 6)] := by
  cases op <;> rfl

/-- Settles O31: the register form is one `modifyReg` of `rotResult`, which gives the result and the flags. -/
theorem registerRotates : Obligations.RegisterRotates := by
  intro op r s
  obtain ⟨t, hrun, hregs, hval, hothers, hcontrol, hf⟩ :=
    modifyReg_frame (fun v old => rotResult op v old.c) r 8 s
  refine ⟨encode_rotReg op r, t, (exec_rotReg op r s).trans hrun, hregs, ?_, hothers, hcontrol, ?_⟩
  · rw [hval]
    exact rotate8_rotated op (s.reg r) _
  · rw [hf, hval]
    exact s.flagsAre_rotResult op (s.reg r) _

/-- Settles O32: the `(HL)` form is one `modifyAtHl` of `rotResult`, a read and then a bus write whatever the result. -/
theorem memoryRotates : Obligations.MemoryRotates := by
  intro op s
  exact ⟨encode_rotAtHl op, _, _, exec_rotAtHl op s, rotate8_rotated op _ _,
    storesByte_memWrite_setFlags_charge s s.hl _ _ 16, State.flagsAre_rotResult _ op _ _⟩

/-! ## BIT (R331, R332) -/

theorem encode_bitReg (b : Fin 8) (r : Reg8) :
    encode (Instr.bitReg b r) = [0xCB, BitVec.ofNat 8 (0x40 + 8 * b.val + r.code)] := by
  fin_cases b <;> cases r <;> rfl

theorem encode_bitAtHl (b : Fin 8) : encode (Instr.bitAtHl b) = [0xCB, BitVec.ofNat 8 (0x46 + 8 * b.val)] := by
  fin_cases b <;> rfl

theorem State.flagsAre_bitTestFlags (s : State) (v : Byte) (b : Nat) (old : Flags) :
    FlagsAre (s.setFlags (bitTestFlags v b old)).cpu.f (bit v b = false) False True (old.c = true) :=
  (s.flagsAre_setFlags _).congr (iff_of_eq (Bool.not_eq_true' _)) (iff_false_intro Bool.false_ne_true)
    (iff_true_intro rfl) Iff.rfl

/-- Settles O33: both forms set the flags of `bitTestFlags` and write nothing else. -/
theorem bitTests : Obligations.BitTests := by
  intro b r s
  exact ⟨⟨encode_bitReg b r, _, exec_bitReg b r s, registersOnly_withCpu s _ 8,
      s.flagsAre_bitTestFlags (s.reg r) b.val s.flags⟩,
    ⟨encode_bitAtHl b, _, exec_bitAtHl b s, registersOnly_withCpu s _ 12,
      s.flagsAre_bitTestFlags (s.memRead s.hl) b.val s.flags⟩⟩

/-! ## RES and SET (R333 to R336) -/

theorem encode_resReg (b : Fin 8) (r : Reg8) :
    encode (Instr.resReg b r) = [0xCB, BitVec.ofNat 8 (0x80 + 8 * b.val + r.code)] := by
  fin_cases b <;> cases r <;> rfl

theorem encode_resAtHl (b : Fin 8) : encode (Instr.resAtHl b) = [0xCB, BitVec.ofNat 8 (0x86 + 8 * b.val)] := by
  fin_cases b <;> rfl

theorem encode_setReg (b : Fin 8) (r : Reg8) :
    encode (Instr.setReg b r) = [0xCB, BitVec.ofNat 8 (0xC0 + 8 * b.val + r.code)] := by
  fin_cases b <;> cases r <;> rfl

theorem encode_setAtHl (b : Fin 8) : encode (Instr.setAtHl b) = [0xCB, BitVec.ofNat 8 (0xC6 + 8 * b.val)] := by
  fin_cases b <;> rfl

/-- What is known of the bits of the byte written holds of the register afterwards; no flag is touched. -/
theorem setReg_charge_bits (s : State) (r : Reg8) (v : Byte) (n : Nat) (t : State) (ht : t = (s.setReg r v).charge n)
    (want : Nat → Bool) (hv : ∀ i, i < 8 → bit v i = want i) :
    RegistersOnly s t.cpu n t ∧ (∀ i, i < 8 → bit (t.reg r) i = want i) ∧ OthersKept r s t ∧ t.cpu.f = s.cpu.f ∧
      ControlKept s t := by
  obtain ⟨hregs, hval, hkept⟩ := setReg_charge_loads s r v n t ht
  exact ⟨hregs, fun i hi => (congrArg (bit · i) hval).trans (hv i hi), hkept⟩

/-- Settles O34: each form writes the byte of `resetBit` or `setBit` back, by one register write or one bus write. -/
theorem bitResetAndSet : Obligations.BitResetAndSet := by
  intro b r s
  exact ⟨⟨encode_resReg b r, _, exec_resReg b r s,
      setReg_charge_bits s r _ 8 _ rfl _ (bit_resetBit (s.reg r) b.val)⟩,
    ⟨encode_setReg b r, _, exec_setReg b r s,
      setReg_charge_bits s r _ 8 _ rfl _ (bit_setBit (s.reg r) b.val)⟩,
    ⟨encode_resAtHl b, _, _, exec_resAtHl b s, bit_resetBit _ b.val, storesByte_memWrite_charge s s.hl _ 16⟩,
    ⟨encode_setAtHl b, _, _, exec_setAtHl b s, bit_setBit _ b.val, storesByte_memWrite_charge s s.hl _ 16⟩⟩

end Sys2Proof.Machine
end

section
/-! SUPPORT. Jumps, calls and returns (45_control.md rules R340 to R350): the two outcomes of a conditional form, the target
of JR, and the frame of a call and of a return, from which every instruction of the family is read off. -/

namespace Sys2Proof.Machine

/-! ## Conditions and targets (R176, R178) -/

/-- What is known of the taken and of the not-taken answer holds of the answer the condition picks. -/
theorem exists_next_of_condition (b : Bool) {taken untaken : State} {P Q : State → Prop} (htaken : P taken)
    (huntaken : Q untaken) :
    ∃ t, (if b then .next taken else .next untaken : Result) = .next t ∧ (b = true → P t) ∧ (b = false → Q t) := by
  cases b with
  | true => exact ⟨taken, rfl, fun _ => htaken, nofun⟩
  | false => exact ⟨untaken, rfl, nofun, fun _ => huntaken⟩

/-- JR adds its displacement to PC as `addSpE8` adds one to SP. -/
theorem State.relTarget_toNat (s : State) (e8 : Byte) :
    ((s.relTarget e8).toNat : Int) = ((s.cpu.pc.toNat : Int) + e8.toInt) % 65536 :=
  addSpE8_toNat s.cpu.pc e8

/-! ## Jumps (R340 to R344) -/

theorem encode_jpCond (cc : Cond) (a16 : Word) :
    encode (Instr.jpCond cc a16) = [BitVec.ofNat 8 (0xC2 + 8 * cc.code), loByte a16, hiByte a16] := by
  cases cc <;> rfl

theorem encode_jrCond (cc : Cond) (e8 : Byte) :
    encode (Instr.jrCond cc e8) = [BitVec.ofNat 8 (0x20 + 8 * cc.code), e8] := by
  cases cc <;> rfl

/-- A jump changes PC alone. -/
theorem State.setPc_charge_registersOnly (s : State) (target : Word) (n : Nat) :
    RegistersOnly s { s.cpu with pc := target } n ((s.setPc target).charge n) :=
  registersOnly_withCpu s _ n

/-- A control transfer that is not taken changes nothing but the cost. -/
theorem State.charge_registersOnly (s : State) (n : Nat) : RegistersOnly s s.cpu n (s.charge n) :=
  registersOnly_withCpu s s.cpu n

theorem jumpIf_registersOnly (cc : Cond) (a16 : Word) (s : State) :
    ∃ t, jumpIf cc a16 s = .next t ∧ (s.cond cc = true → RegistersOnly s { s.cpu with pc := a16 } 16 t) ∧
      (s.cond cc = false → RegistersOnly s s.cpu 12 t) :=
  exists_next_of_condition (s.cond cc) (s.setPc_charge_registersOnly a16 16) (s.charge_registersOnly 12)

theorem jumpRelIf_registersOnly (cc : Cond) (e8 : Byte) (s : State) :
    ∃ t, jumpRelIf cc e8 s = .next t ∧
      (s.cond cc = true → RegistersOnly s { s.cpu with pc := s.relTarget e8 } 12 t) ∧
      (s.cond cc = false → RegistersOnly s s.cpu 8 t) :=
  exists_next_of_condition (s.cond cc) (s.setPc_charge_registersOnly (s.relTarget e8) 12) (s.charge_registersOnly 8)

/-- Settles O36: every jump taken is one `setPc`, and the conditional forms are `jumpIf` and `jumpRelIf`. -/
theorem jumps : Obligations.Jumps := by
  intro cc a16 e8 s
  rw [exec_jpCond cc a16 s, exec_jrCond cc e8 s]
  obtain ⟨t, hjr, htaken, huntaken⟩ := jumpRelIf_registersOnly cc e8 s
  exact ⟨⟨rfl, _, rfl, s.setPc_charge_registersOnly a16 16⟩, ⟨rfl, _, rfl, s.setPc_charge_registersOnly s.hl 4⟩,
    ⟨rfl, _, _, rfl, s.relTarget_toNat e8, s.setPc_charge_registersOnly (s.relTarget e8) 12⟩,
    ⟨encode_jpCond cc a16, jumpIf_registersOnly cc a16 s⟩,
    ⟨encode_jrCond cc e8, t, _, hjr, s.relTarget_toNat e8, htaken, huntaken⟩, rfl, rfl, rfl, rfl⟩

/-! ## Calls and restarts (R345, R346, R350) -/

theorem encode_callCond (cc : Cond) (a16 : Word) :
    encode (Instr.callCond cc a16) = [BitVec.ofNat 8 (0xC4 + 8 * cc.code), loByte a16, hiByte a16] := by
  cases cc <;> rfl

theorem encode_rst (n : Fin 8) : encode (Instr.rst n) = [BitVec.ofNat 8 (0xC7 + 8 * n.val)] := by
  fin_cases n <;> rfl

/-- `s` calls `target` at the cost `n`, with `t` the state afterwards: PC is pushed, high byte first, and SP and PC alone
change among the registers. -/
def Calls (s : State) (target : Word) (n : Nat) (t : State) : Prop :=
  StoresTwoBytes s (s.cpu.sp - 1) (hiByte s.cpu.pc) (s.cpu.sp - 2) (loByte s.cpu.pc)
    { s.cpu with sp := s.cpu.sp - 2, pc := target } n t

/-- The push is the two bus writes that `State.push16_eq` names. -/
theorem State.call_charge_calls (s : State) (target : Word) (n : Nat) :
    Calls s target n ((s.call target).charge n) := by
  rw [State.call, State.push16_eq]
  exact storesTwoBytes_of s _ _ _ _ _ n

theorem callIf_calls (cc : Cond) (a16 : Word) (s : State) :
    ∃ t, callIf cc a16 s = .next t ∧ (s.cond cc = true → Calls s a16 24 t) ∧
      (s.cond cc = false → RegistersOnly s s.cpu 12 t) :=
  exists_next_of_condition (s.cond cc) (s.call_charge_calls a16 24) (s.charge_registersOnly 12)

theorem restart_calls (target : Word) (s : State) : ∃ t, restart target s = .next t ∧ Calls s target 16 t :=
  ⟨_, rfl, s.call_charge_calls target 16⟩

/-- Settles O37: CALL, a CALL cc that is taken and RST are one `State.call`, to the target that each names. -/
theorem callsAndRestarts : Obligations.CallsAndRestarts := by
  intro cc n a16 s
  have hrst : exec (Instr.rst n) s = restart (BitVec.ofNat 16 (n.val * 8)) s := by
    rw [exec_rst n s, Nat.mul_comm]
  rw [exec_callCond cc a16 s, hrst]
  exact ⟨⟨rfl, _, rfl, s.call_charge_calls a16 24⟩, ⟨encode_callCond cc a16, callIf_calls cc a16 s⟩,
    ⟨encode_rst n, restart_calls _ s⟩⟩

/-! ## Returns (R347 to R349) -/

theorem encode_retCond (cc : Cond) : encode (Instr.retCond cc) = [BitVec.ofNat 8 (0xC0 + 8 * cc.code)] := by
  cases cc <;> rfl

/-- A return changes SP and PC alone. -/
theorem State.ret_charge_registersOnly (s : State) (n : Nat) :
    RegistersOnly s { s.cpu with sp := s.cpu.sp + 2, pc := s.poppedWord } n ((s.ret).charge n) :=
  registersOnly_withCpu s _ n

/-- The return from an interrupt changes IME as well, and no other register. -/
theorem State.returnFromInterrupt_charge_registersOnly (s : State) (n : Nat) :
    RegistersOnly s { s.cpu with sp := s.cpu.sp + 2, pc := s.poppedWord, ime := .enabled } n
      ((s.returnFromInterrupt).charge n) :=
  registersOnly_withCpu s _ n

theorem retIf_registersOnly (cc : Cond) (s : State) :
    ∃ t, retIf cc s = .next t ∧
      (s.cond cc = true → RegistersOnly s { s.cpu with sp := s.cpu.sp + 2, pc := s.poppedWord } 20 t) ∧
      (s.cond cc = false → RegistersOnly s s.cpu 8 t) :=
  exists_next_of_condition (s.cond cc) (s.ret_charge_registersOnly 20) (s.charge_registersOnly 8)

/-- Settles O38: each form returns to the word popped, which is the two bytes read at SP, low byte first. -/
theorem returns : Obligations.Returns := by
  intro cc s target htarget
  obtain rfl : target = s.poppedWord := htarget
  rw [exec_retCond cc s]
  exact ⟨⟨rfl, _, rfl, s.ret_charge_registersOnly 16⟩, ⟨encode_retCond cc, retIf_registersOnly cc s⟩,
    ⟨rfl, _, rfl, s.returnFromInterrupt_charge_registersOnly 16⟩⟩

end Sys2Proof.Machine
end

section
/-! SUPPORT. The system instructions (46_system.md rules R370 to R375): the two answers of EI, and from them the delay of its
enable by one instruction (60_exceptions.md rules R400 and R402). -/

namespace Sys2Proof.Machine

/-! ## The instructions themselves -/

/-- A write of the halted flag changes the CPU alone. -/
theorem State.setHalted_charge_registersOnly (s : State) (v : Bool) (n : Nat) :
    RegistersOnly s { s.cpu with halted := v } n ((s.setHalted v).charge n) :=
  registersOnly_withCpu s _ n

/-- A write of IME changes the CPU alone. -/
theorem State.setIme_charge_registersOnly (s : State) (v : Ime) (n : Nat) :
    RegistersOnly s { s.cpu with ime := v } n ((s.setIme v).charge n) :=
  registersOnly_withCpu s _ n

theorem execEi_of_disabled {s : State} (h : s.cpu.ime = .disabled) : execEi s = .next ((s.setIme .pending).charge 4) := by
  rw [execEi, if_pos h]

theorem execEi_of_not_disabled {s : State} (h : s.cpu.ime ≠ .disabled) : execEi s = .next (s.charge 4) := by
  rw [execEi, if_neg h]

theorem execEi_registersOnly (s : State) :
    ∃ t, execEi s = .next t ∧ (s.cpu.ime = .disabled → RegistersOnly s { s.cpu with ime := .pending } 4 t) ∧
      (s.cpu.ime ≠ .disabled → RegistersOnly s s.cpu 4 t) := by
  by_cases h : s.cpu.ime = .disabled
  · exact ⟨_, execEi_of_disabled h, fun _ => s.setIme_charge_registersOnly .pending 4, fun hne => absurd h hne⟩
  · exact ⟨_, execEi_of_not_disabled h, fun he => absurd he h, fun _ => s.charge_registersOnly 4⟩

/-- Settles O39: NOP and STOP only cost, HALT and DI write one control field, and EI is read off its two answers. -/
theorem systemInstructions : Obligations.SystemInstructions := by
  intro operand s
  exact ⟨⟨rfl, _, rfl, s.charge_registersOnly 4⟩, ⟨rfl, _, rfl, s.charge_registersOnly 4⟩,
    ⟨rfl, _, rfl, s.setHalted_charge_registersOnly true 4⟩, ⟨rfl, _, rfl, s.setIme_charge_registersOnly .disabled 4⟩,
    ⟨rfl, execEi_registersOnly s⟩⟩

/-! ## The step around an instruction (R400) -/

theorem State.applyEvent_fault (s : State) (ev : InputEvent) : (s.applyEvent ev).fault = s.fault := by
  cases ev <;> rfl

theorem State.applyEvents_fault (evs : List InputEvent) (s : State) : (evs.foldl State.applyEvent s).fault = s.fault := by
  induction evs generalizing s with
  | nil => rfl
  | cons ev rest ih => exact (ih (s.applyEvent ev)).trans (s.applyEvent_fault ev)

theorem State.applyInput_fault (s : State) : s.applyInput.fault = s.fault := by
  unfold State.applyInput
  split
  · rfl
  · exact State.applyEvents_fault _ _

theorem State.atBoundary_fault (s : State) : s.atBoundary.fault = s.fault := s.clearOutput.applyInput_fault

/-- A step whose CPU part runs an instruction that raises nothing goes on to the promotion and the devices. -/
theorem step_of_cpuStep {s t : State} (hruns : s.runs) (hcpu : cpuStep s.atBoundary = .next t) (ht : t.fault = none) :
    step s = .next (t.promoteIme s.atBoundary.cpu.ime).advance := by
  obtain ⟨hfault, hhalted⟩ := hruns
  simp [step, hfault, systemStep, hhalted, hcpu, State.finishStep, ht]

/-- Timer, PPU and APU leave the CPU to the service call as the promotion left it. -/
theorem State.advance_eq_service (s : State) : ∃ d : State, s.advance = d.service ∧ d.cpu = s.cpu :=
  ⟨_, rfl, (s.devices_frame s.cycles).cpu⟩

/-- Service has nobody to wake and no leave to dispatch when the CPU runs with IME other than 1 (R412). -/
theorem State.service_of_not_enabled {s : State} (hhalted : s.cpu.halted = false) (hime : s.cpu.ime ≠ .enabled) :
    s.service = s := by
  have hwake : s.wake = s := by simp [State.wake, hhalted]
  rw [State.service, hwake, State.dispatch, if_neg (fun h => hime h.1)]

theorem State.advance_cpu_of_not_enabled {s : State} (hhalted : s.cpu.halted = false) (hime : s.cpu.ime ≠ .enabled) :
    s.advance.cpu = s.cpu := by
  obtain ⟨d, hd, hcpu⟩ := s.advance_eq_service
  rw [hd, State.service_of_not_enabled (hcpu ▸ hhalted) (hcpu ▸ hime), hcpu]

theorem State.promoteIme_of_not_pending {s : State} {before : Ime} (h : before ≠ .pending) : s.promoteIme before = s :=
  if_neg (fun hp => h hp.1)

theorem State.promoteIme_of_pending {s : State} (h : s.cpu.ime = .pending) : s.promoteIme .pending = s.setIme .enabled :=
  if_pos ⟨rfl, h⟩

/-- Whatever instruction runs between, an IME that is 2 at both ends of it is 1 when Service is called (R402). -/
theorem step_promotes_before_service {s t : State} (hruns : s.runs) (hbefore : s.atBoundary.cpu.ime = .pending)
    (hcpu : cpuStep s.atBoundary = .next t) (ht : t.fault = none) (hafter : t.cpu.ime = .pending) :
    ∃ d : State, step s = .next d.service ∧ d.cpu = { t.cpu with ime := .enabled } := by
  obtain ⟨d, hd, hdcpu⟩ := (t.setIme .enabled).advance_eq_service
  have hstep := step_of_cpuStep hruns hcpu ht
  rw [hbefore, State.promoteIme_of_pending hafter, hd] at hstep
  exact ⟨d, hstep, hdcpu⟩

/-! ## The delay of EI (R375, R402) -/

theorem cpuStep_of_ei {b : State} (hop : b.memRead b.cpu.pc = 0xFB) :
    cpuStep b = execEi (b.setPc (b.cpu.pc + 1)) := by
  rw [cpuStep, State.fetched, State.nextPc, hop]
  rfl

theorem cpuStep_of_nop {b : State} (hop : b.memRead b.cpu.pc = 0x00) :
    cpuStep b = execNop (b.setPc (b.cpu.pc + 1)) := by
  rw [cpuStep, State.fetched, State.nextPc, hop]
  rfl

/-- Settles O40: EI leaves IME at 2, which neither the promotion (IME was 0 before) nor Service acts on; a step that starts
with IME = 2 promotes it before the devices advance, and they leave the CPU alone. -/
theorem enableInterruptsDelay : Obligations.EnableInterruptsDelay := by
  refine ⟨?ei, ?nop⟩
  case ei =>
    rintro s b rfl hruns hime hop
    have hcpu := (cpuStep_of_ei hop).trans (execEi_of_disabled hime)
    refine ⟨_, step_of_cpuStep hruns hcpu (s.atBoundary_fault.trans hruns.1), ?_⟩
    rw [State.promoteIme_of_not_pending (by simp [hime])]
    exact State.advance_cpu_of_not_enabled hruns.2 (by decide : Ime.pending ≠ .enabled)
  case nop =>
    rintro s b rfl hruns hime hop
    exact step_promotes_before_service hruns hime (cpuStep_of_nop hop) (s.atBoundary_fault.trans hruns.1) hime

end Sys2Proof.Machine
end

section
/-! SUPPORT. Interrupt service and the halted step (60_exceptions.md rules R401 and R412 to R414): the two parts of Service by
whether a source is pending and enabled, the entry as two bus writes after one stored byte, and the step that only runs
the devices. -/

namespace Sys2Proof.Machine

/-! ## Sources pending and enabled (R412) -/

theorem State.pendingSources_eq_zero_of_none_enabled {s : State} (h : s.io 0xFFFF &&& 0x1F = 0) :
    s.pendingSources = 0 := by
  rw [State.pendingSources, BitVec.and_assoc, h]
  exact BitVec.and_zero

/-- The mask 0x1F leaves only the five sources. -/
theorem State.bit_pendingSources_of_ge (s : State) {i : Nat} (hi : 5 ≤ i) : bit s.pendingSources i = false := by
  have hpow : 2 ^ 5 ≤ 2 ^ i := Nat.pow_le_pow_right (by decide) hi
  have hmask : bit 0x1F i = false := Nat.testBit_lt_two_pow (Nat.lt_of_lt_of_le (by decide) hpow)
  rw [State.pendingSources, bit_and, hmask, Bool.and_false]

/-- A source that `lowestSource` answers is set, and no lower one is (R414). -/
theorem lowestSource_eq_some {p : Byte} {k : Nat} (h : lowestSource p = some k) :
    k < 5 ∧ bit p k = true ∧ ∀ j, j < k → bit p j = false := by
  obtain ⟨hset, hk, hlower⟩ := List.find?_range_eq_some.mp h
  exact ⟨List.mem_range.mp hk, hset, fun j hj => by simpa using hlower j hj⟩

/-- Any bit set in `p` is one of the five, so the search of the five finds one. -/
theorem State.exists_lowestSource {s : State} (h : s.pendingSources ≠ 0) : ∃ k, lowestSource s.pendingSources = some k := by
  refine Option.ne_none_iff_exists'.mp fun hnone => h (BitVec.eq_of_getLsbD_eq fun i _ => ?_)
  by_cases hi : i < 5
  · simpa [bit] using List.find?_range_eq_none.mp hnone i hi
  · exact (s.bit_pendingSources_of_ge (Nat.le_of_not_lt hi)).trans BitVec.getLsbD_zero.symm

/-! ## Wake and dispatch (R412) -/

theorem State.service_of_no_source {s : State} (h : s.pendingSources = 0) : s.service = s := by
  have hwake : s.wake = s := by simp [State.wake, h]
  have hlowest : lowestSource 0 = none := by decide
  rw [State.service, hwake, State.dispatch, h, hlowest, ite_self]

theorem State.wake_of_source {s : State} (h : s.pendingSources ≠ 0) : s.wake = s.setHalted false := by
  cases hhalted : s.cpu.halted with
  | true => rw [State.wake, hhalted, decide_eq_true h, Bool.and_self, if_pos rfl]
  | false =>
    have hsame : s.setHalted false = s := by rw [← hhalted]; rfl
    rw [State.wake, hhalted, Bool.false_and, if_neg Bool.false_ne_true, hsame]

/-- With a source pending, an IME other than 1 keeps Service from dispatching. -/
theorem State.service_of_source_not_enabled {s : State} (h : s.pendingSources ≠ 0) (hime : s.cpu.ime ≠ .enabled) :
    s.service = s.setHalted false := by
  rw [State.service, State.wake_of_source h, State.dispatch, if_neg (fun hd => hime hd.1)]

/-- The wake comes first, so a CPU that was halted dispatches in the same call. -/
theorem State.service_of_source_enabled {s : State} {k : Nat} (h : s.pendingSources ≠ 0) (hime : s.cpu.ime = .enabled)
    (hk : lowestSource s.pendingSources = some k) : s.service = (s.setHalted false).takeInterrupt k := by
  have hk' : lowestSource (s.setHalted false).pendingSources = some k := hk
  rw [State.service, State.wake_of_source h, State.dispatch, if_pos ⟨hime, rfl⟩, hk']

/-! ## The entry (R413) -/

/-- The machine with the request of source `k` cleared, which the entry pushes from. -/
def State.clearRequest (s : State) (k : Nat) : State := s.setIo 0xFF0F (resetBit (s.io 0xFF0F) k)

theorem State.clearRequest_io (s : State) (k : Nat) : (s.clearRequest k).io 0xFF0F = resetBit (s.io 0xFF0F) k := by
  rw [State.clearRequest, State.io_setIo, if_pos rfl]

/-- A push does its bus writes from whatever CPU registers it starts with. -/
theorem State.push16_withCpu (s : State) (c : Cpu) (n : Nat) (v : Word) :
    ({ s with cpu := c, cycles := n } : State).push16 v =
      { (s.memWrite (c.sp - 1) (hiByte v)).memWrite (c.sp - 2) (loByte v) with
        cpu := { c with sp := c.sp - 2 }, cycles := n } := by
  simp only [State.push16_eq, State.memWrite_withCpu]

/-- The entry clears the request, pushes PC and goes to the vector, from whatever CPU registers it starts with. -/
theorem State.takeInterrupt_storesTwoBytes (s : State) (c : Cpu) (k : Nat) :
    StoresTwoBytes (s.clearRequest k) (c.sp - 1) (hiByte c.pc) (c.sp - 2) (loByte c.pc)
      { c with ime := .disabled, sp := c.sp - 2, pc := vectorOf k } s.cycles
      (({ s with cpu := c } : State).takeInterrupt k) := by
  have hpush := (s.clearRequest k).push16_withCpu { c with ime := .disabled } s.cycles c.pc
  have htake : ({ s with cpu := c } : State).takeInterrupt k =
      (({ s.clearRequest k with cpu := { c with ime := .disabled }, cycles := s.cycles } : State).push16 c.pc).setPc
        (vectorOf k) := rfl
  rw [htake, hpush]
  exact storesTwoBytes_of _ _ _ _ _ _ _

/-- Settles O41: without a source Service keeps the machine; with one it wakes the CPU, and IME = 1 lets the entry of the
lowest source follow. -/
theorem serviceTakesLowestSource : Obligations.ServiceTakesLowestSource := by
  intro s p hp
  obtain rfl : p = s.pendingSources := hp
  refine ⟨State.service_of_no_source, fun hime h => State.service_of_source_not_enabled h hime, fun hime h => ?_⟩
  obtain ⟨k, hlowest⟩ := State.exists_lowestSource h
  obtain ⟨hk, hset, hlower⟩ := lowestSource_eq_some hlowest
  refine ⟨k, s.clearRequest k, hk, hset, hlower, fun i hi => ?_, ?_, ?_⟩
  · rw [s.clearRequest_io k]
    exact bit_resetBit (s.io 0xFF0F) k i hi
  · rw [s.clearRequest_io k]
    rfl
  · rw [State.service_of_source_enabled h hime hlowest]
    exact s.takeInterrupt_storesTwoBytes { s.cpu with halted := false } k

/-! ## The halted step (R401) -/

theorem step_of_halted {s : State} (hfault : s.fault = none) (hhalted : s.atBoundary.cpu.halted = true) :
    step s = .next (s.atBoundary.charge 4).advance := by
  simp [step, hfault, systemStep, hhalted]

/-- Settles O6: the CPU part only charges 4 cycles; the devices leave the CPU and IE alone, so Service finds no source where
none is enabled. -/
theorem haltedStepSkips : Obligations.HaltedStepSkips := by
  rintro s b rfl hfault hhalted
  have hstep := step_of_halted hfault hhalted
  have hframe := (s.atBoundary.charge 4).devices_frame 4
  refine ⟨_, rfl, hframe.cpu, hstep, fun hie => ?_⟩
  have hnone := State.pendingSources_eq_zero_of_none_enabled
    ((congrArg (· &&& 0x1F) (hframe.io 0xFFFF (by decide) (by decide))).trans hie)
  exact hstep.trans (congrArg Host.Outcome.next (State.service_of_no_source hnone))

end Sys2Proof.Machine
end

section
/-! SUPPORT. The two directions of the code (30_encoding.md rules R170 to R184): what the field decoder reads is well formed and
is encoded by the bytes read, and the bytes of a well-formed instruction are read back as it. -/

namespace Sys2Proof.Machine

/-! ## Operand bytes -/

theorem littleEndian_append (hi lo : Byte) : littleEndian (hi ++ lo) = [lo, hi] := by
  have hlo : (hi ++ lo).setWidth 8 = lo := loByte_joinBytes hi lo
  have hhi : ((hi ++ lo) >>> 8).setWidth 8 = hi := hiByte_joinBytes hi lo
  rw [littleEndian, hlo, hhi]

/-- The bytes after the opcode byte, in the form the encoder writes them (R170). -/
def operandBytes (op b1 b2 : Byte) : List Byte :=
  if threeByteOpcodes.contains op then littleEndian (b2 ++ b1)
  else if twoByteOpcodes.contains op then [b1]
  else []

/-- They are as many of the bytes that follow as the opcode announces (R184). -/
theorem operandBytes_eq_take (op b1 b2 : Byte) : operandBytes op b1 b2 = [b1, b2].take (opcodeLength op - 1) := by
  rw [operandBytes, opcodeLength, littleEndian_append]
  split_ifs <;> rfl

/-! ## From bytes to the instruction and back -/

/-- `i` is a legal reading of the opcode byte `op` followed by `b1` and `b2`. -/
def Reads (op b1 b2 : Byte) (i : Instr) : Prop := i.wf = true ∧ encode i = op :: operandBytes op b1 b2

/-- R179: the CB instruction of a second byte is encoded by 0xCB and that byte. -/
theorem reads_decodeCb (op2 b2 : Byte) : Reads 0xCB op2 b2 (decodeCb op2) := by
  have hall : ∀ op2 : Byte, (decodeCb op2).wf = true ∧ encode (decodeCb op2) = [0xCB, op2] := by decide
  exact hall op2

theorem reads_decodeX0 (y z : Nat) (hy : y < 8) (hz : z < 8) (b1 b2 : Byte) :
    Reads (BitVec.ofNat 8 (8 * y + z)) b1 b2 (decodeX0 y z b1 b2) := by
  interval_cases y <;> interval_cases z <;> exact ⟨rfl, rfl⟩

theorem reads_decodeX1 (y z : Nat) (hy : y < 8) (hz : z < 8) (b1 b2 : Byte) :
    Reads (BitVec.ofNat 8 (64 + 8 * y + z)) b1 b2 (decodeX1 y z) := by
  interval_cases y <;> interval_cases z <;> exact ⟨rfl, rfl⟩

theorem reads_decodeX2 (y z : Nat) (hy : y < 8) (hz : z < 8) (b1 b2 : Byte) :
    Reads (BitVec.ofNat 8 (128 + 8 * y + z)) b1 b2 (decodeX2 y z) := by
  interval_cases y <;> interval_cases z <;> exact ⟨rfl, rfl⟩

theorem reads_decodeX3 (y z : Nat) (hy : y < 8) (hz : z < 8) (b1 b2 : Byte) :
    Reads (BitVec.ofNat 8 (192 + 8 * y + z)) b1 b2 (decodeX3 (BitVec.ofNat 8 (192 + 8 * y + z)) y z b1 b2) := by
  interval_cases y <;> interval_cases z
  pick_goal 12 -- y = 1, z = 3: 0xCB
  · exact reads_decodeCb b1 b2
  all_goals exact ⟨rfl, rfl⟩

/-- R172: an opcode byte is its three fields. -/
theorem opcode_fields (op : Byte) :
    op = BitVec.ofNat 8 (64 * (op.toNat / 64) + 8 * (op.toNat / 8 % 8) + op.toNat % 8) := by
  apply BitVec.eq_of_toNat_eq
  rw [BitVec.toNat_ofNat]
  omega

theorem reads_decodeOp (op b1 b2 : Byte) : Reads op b1 b2 (decodeOp op b1 b2) := by
  have hop := opcode_fields op
  have hx : op.toNat / 64 < 4 := by omega
  have hy : op.toNat / 8 % 8 < 8 := by omega
  have hz : op.toNat % 8 < 8 := by omega
  unfold decodeOp
  generalize op.toNat / 64 = x at *
  generalize op.toNat / 8 % 8 = y at *
  generalize op.toNat % 8 = z at *
  subst hop
  interval_cases x
  · simpa using reads_decodeX0 y z hy hz b1 b2
  · exact reads_decodeX1 y z hy hz b1 b2
  · exact reads_decodeX2 y z hy hz b1 b2
  · exact reads_decodeX3 y z hy hz b1 b2

/-! ## The obligations on the code -/

/-- The bytes that are there are decoded as the opcode byte and the two after it, an absent one read as zero. -/
theorem decode_cons {op : Byte} {tail : List Byte} (h : opcodeLength op ≤ tail.length + 1) :
    decode (op :: tail) = .ok (decodeOp op (tail.getD 0 0) (tail.getD 1 0), tail.drop (opcodeLength op - 1)) := by
  rw [decode, if_neg (by omega)]

theorem opcodeLength_le_three (op : Byte) : opcodeLength op ≤ 3 := by
  rw [opcodeLength]
  split_ifs <;> decide

/-- As many of the first two bytes as the list holds are its own front. -/
theorem take_getD_append_drop (tail : List Byte) (n : Nat) (hn : n ≤ 2) (h : n ≤ tail.length) :
    [tail.getD 0 0, tail.getD 1 0].take n ++ tail.drop n = tail := by
  match n, tail with
  | 0, _ => rfl
  | 1, _ :: _ => rfl
  | 2, _ :: _ :: _ => rfl

/-- Settles O3: a successful decode reads `decodeOp` of the first bytes, which `reads_decodeOp` encodes back. -/
theorem encodeOfDecode : Obligations.EncodeOfDecode := by
  intro bytes rest i h
  match bytes with
  | [] => cases h
  | op :: tail =>
    by_cases hlen : opcodeLength op ≤ tail.length + 1
    · rw [decode_cons hlen] at h
      cases h
      obtain ⟨hwf, hencode⟩ := reads_decodeOp op (tail.getD 0 0) (tail.getD 1 0)
      have hmax := opcodeLength_le_three op
      refine ⟨hwf, ?_⟩
      rw [hencode, operandBytes_eq_take, List.cons_append, take_getD_append_drop _ _ (by omega) (by omega)]
    · rw [decode, if_pos (by omega)] at h
      cases h

theorem illegal_wf_iff (op : Byte) : (Instr.illegal op).wf = true ↔ op ∈ illegalOpcodes := by
  simp [Instr.wf, Instr.illegalByteOk, Instr.notBarePrefix]

/-- Settles O4: the byte an illegal reading carries is the byte it is encoded by, and its well-formedness is the list of R182. -/
theorem illegalBytesAreEleven : Obligations.IllegalBytesAreEleven := by
  intro op b1 b2
  have hreads := reads_decodeOp op b1 b2
  have hself : ∀ o, decodeOp op b1 b2 = .illegal o → o = op := fun o ho => by
    rw [ho] at hreads
    exact (List.cons.inj hreads.2).1
  refine ⟨⟨fun ⟨o, ho⟩ => ?_, fun hmem => ⟨op, ?_⟩⟩, hself⟩
  · rw [ho, hself o ho] at hreads
    exact (illegal_wf_iff op).mp hreads.1
  · fin_cases hmem <;> rfl

/-- What a decode of the bytes of `i` needs to answer `i`: the first byte announces their number, and `i` is read from it and
the two bytes after it, whatever follows. -/
def ReadBack (i : Instr) : Prop :=
  ∃ op tail, encode i = op :: tail ∧ opcodeLength op = tail.length + 1 ∧
    ∀ rest : List Byte, decodeOp op ((tail ++ rest).getD 0 0) ((tail ++ rest).getD 1 0) = i

theorem readBack_illegal (op : Byte) (h : (Instr.illegal op).wf = true) : ReadBack (.illegal op) := by
  have hmem := (illegal_wf_iff op).mp h
  unfold illegalOpcodes at hmem
  fin_cases hmem <;> exact ⟨_, _, rfl, rfl, fun _ => rfl⟩

/-- Every well-formed instruction is read back from its bytes; a 16-bit operand is joined again from its two (R170). -/
theorem readBack (i : Instr) (h : i.wf = true) : ReadBack i := by
  cases i with
  | prefixCb _ => cases h
  | illegal op => exact readBack_illegal op h
  | ldBcN16 v | ldDeN16 v | ldHlN16 v | ldSpN16 v | ldAtA16Sp v | ldAtA16A v | ldAAtA16 v | jpA16 v | jpNzA16 v | jpZA16 v
  | jpNcA16 v | jpCA16 v | callA16 v | callNzA16 v | callZA16 v | callNcA16 v | callCA16 v =>
    exact ⟨_, _, rfl, rfl, fun _ => congrArg _ (joinBytes_hi_lo v)⟩
  | _ => exact ⟨_, _, rfl, rfl, fun _ => by simp only [List.cons_append, List.nil_append, List.getD_cons_zero]; rfl⟩

/-- Settles O2: the opcode byte announces just the bytes of the encoding, so the decoder consumes them and reads `i`. -/
theorem decodeOfEncode : Obligations.DecodeOfEncode := by
  intro i rest h
  obtain ⟨op, tail, hencode, hlen, hread⟩ := readBack i h
  rw [hencode, List.cons_append, decode_cons (by simp [hlen]), hread, hlen, Nat.add_sub_cancel, List.drop_left]

/-- Settles O1: each word is the encoding of its instruction, followed by nothing. -/
theorem writtenWordsDecode : Obligations.WrittenWordsDecode := by
  have hword {i : Instr} {bytes : List Byte} (hwf : i.wf = true) (hbytes : encode i ++ [] = bytes) :
      decode bytes = .ok (i, []) := hbytes ▸ decodeOfEncode i [] hwf
  unfold Obligations.WrittenWordsDecode
  repeat' apply And.intro
  all_goals exact hword rfl rfl

end Sys2Proof.Machine
end

section
/-! SUPPORT. What an instruction does, said once: bus writes, then CPU registers and a cost, with F, the halted flag and IME
written only by the instructions whose rules say so (10_state.md rules R36 to R38, 30_encoding.md rule R171). -/

namespace Sys2Proof.Machine

/-! ## Bus writes in order -/

/-- The machine after the bus writes of a list, the first one first. -/
def State.writes (s : State) (ws : List (Word × Byte)) : State := ws.foldl (fun u w => u.memWrite w.1 w.2) s

/-- `u` is `s` after bus writes and updates of registers other than F, IME and the halted flag. -/
structure Quiet (s u : State) : Prop where
  writes : ∃ ws, u = { s.writes ws with cpu := u.cpu, cycles := u.cycles }
  f : u.cpu.f = s.cpu.f
  halted : u.cpu.halted = s.cpu.halted
  ime : u.cpu.ime = s.cpu.ime

theorem Quiet.refl (s : State) : Quiet s s := ⟨⟨[], rfl⟩, rfl, rfl, rfl⟩

section
variable {s u : State} (h : Quiet s u)
include h

theorem Quiet.withCpu (c : Cpu) (hf : c.f = u.cpu.f) (hh : c.halted = u.cpu.halted) (hi : c.ime = u.cpu.ime) :
    Quiet s { u with cpu := c } := by
  obtain ⟨ws, hws⟩ := h.writes
  exact ⟨⟨ws, by rw [hws]⟩, hf.trans h.f, hh.trans h.halted, hi.trans h.ime⟩

theorem Quiet.setPc (v : Word) : Quiet s (u.setPc v) := h.withCpu _ rfl rfl rfl
theorem Quiet.setSp (v : Word) : Quiet s (u.setSp v) := h.withCpu _ rfl rfl rfl
theorem Quiet.setA (v : Byte) : Quiet s (u.setA v) := h.withCpu _ rfl rfl rfl
theorem Quiet.setHl (v : Word) : Quiet s (u.setHl v) := h.withCpu _ rfl rfl rfl

theorem Quiet.setReg (r : Reg8) (v : Byte) : Quiet s (u.setReg r v) := by
  rw [State.setReg_eq_withCpu]
  exact h.withCpu _ (by simp) (by simp) (by simp)

theorem Quiet.setPair (p : Pair) (v : Word) : Quiet s (u.setPair p v) := by
  cases p <;> exact h.withCpu _ rfl rfl rfl

/-- Every pair of the stack instructions but AF. -/
theorem Quiet.setStackPair {p : StackPair} (hp : p ≠ .af) (v : Word) : Quiet s (u.setStackPair p v) := by
  cases p with
  | af => exact absurd rfl hp
  | bc | de | hl => exact h.withCpu _ rfl rfl rfl

theorem Quiet.memWrite (addr : Word) (v : Byte) : Quiet s (u.memWrite addr v) := by
  obtain ⟨ws, hws⟩ := h.writes
  refine ⟨⟨ws ++ [(addr, v)], ?_⟩, by simp [h.f], by simp [h.halted], by simp [h.ime]⟩
  have happend : s.writes (ws ++ [(addr, v)]) = (s.writes ws).memWrite addr v := by simp [State.writes]
  have hwrite := (s.writes ws).memWrite_withCpu u.cpu u.cycles addr v
  rw [← hws] at hwrite
  rw [happend, State.memWrite_cpu, State.memWrite_cycles, hwrite]

theorem Quiet.pushByte (v : Byte) : Quiet s (u.pushByte v) := (h.setSp _).memWrite _ v

theorem Quiet.call (target : Word) : Quiet s (u.call target) := ((h.pushByte _).pushByte _).setPc _

end

/-! ## The effect of an instruction -/

/-- A mask clears the low bits that it does not have. -/
theorem toNat_and_mod_two_pow (v mask : Byte) (k : Nat) (h : mask.toNat % 2 ^ k = 0) :
    (v &&& mask).toNat % 2 ^ k = 0 := by
  rw [BitVec.toNat_and, Nat.and_mod_two_pow, h, Nat.and_zero]

/-- The costs of R171: whole 4-cycle units, from 4 to 24 cycles. -/
abbrev Cost (n : Nat) : Prop := 4 ≤ n ∧ n ≤ 24 ∧ n % 4 = 0

/-- What the instruction `i` can have done to `s` to leave `t`, where `i` is no illegal byte. -/
structure Effect (i : Instr) (s t : State) : Prop where
  writes : ∃ ws, t = { s.writes ws with cpu := t.cpu, cycles := t.cycles }
  cost : Cost t.cycles
  flags : t.cpu.f = s.cpu.f ∨ (WritesFlags i ∧ t.cpu.f.toNat % 16 = 0)
  halted : i ≠ .halt → t.cpu.halted = s.cpu.halted
  ime : i ≠ .ei → i ≠ .di → i ≠ .reti → t.cpu.ime = s.cpu.ime

/-- The instruction completes with its effect. -/
def Completes (i : Instr) (s : State) : Prop := ∃ t, exec i s = .next t ∧ Effect i s t

section
variable {i : Instr} {s u : State} {n : Nat} (h : Quiet s u)
include h

theorem Quiet.effect (hn : Cost n := by decide) : Effect i s (u.charge n) := by
  obtain ⟨ws, hws⟩ := h.writes
  exact ⟨⟨ws, by rw [hws]; rfl⟩, hn, .inl h.f, fun _ => h.halted, fun _ _ _ => h.ime⟩

theorem Quiet.completes (hexec : exec i s = .next (u.charge n)) (hn : Cost n := by decide) : Completes i s :=
  ⟨_, hexec, h.effect hn⟩

/-- R33: F takes any byte with its low nibble cleared. -/
theorem Quiet.completes_setF {v : Byte} (hexec : exec i s = .next ((u.setF v).charge n)) (hn : Cost n := by decide)
    (hi : WritesFlags i := by simp [WritesFlags]) : Completes i s := by
  obtain ⟨ws, hws⟩ := h.writes
  have hnibble : (v &&& 0xF0).toNat % 16 = 0 := toNat_and_mod_two_pow v 0xF0 4 rfl
  exact ⟨_, hexec, ⟨ws, by rw [hws]; rfl⟩, hn, .inr ⟨hi, hnibble⟩, fun _ => h.halted, fun _ _ _ => h.ime⟩

/-- A conditional instruction completes when both its outcomes do. -/
theorem Quiet.completes_ite {b : Bool} {m : Nat}
    (hexec : exec i s = if b then .next (u.charge n) else .next (s.charge m)) (hn : Cost n := by decide)
    (hm : Cost m := by decide) :
    Completes i s := by
  cases b with
  | true => exact h.completes hexec hn
  | false => exact (Quiet.refl s).completes hexec hm

end

/-! ## Every instruction the decoder answers (R172 to R179) -/

theorem completes_decodeX0 (y z : Nat) (b1 b2 : Byte) (s : State) : Completes (decodeX0 y z b1 b2) s := by
  have hq := Quiet.refl s
  unfold decodeX0
  split
  · split
    · exact hq.completes rfl
    · exact ((hq.memWrite _ _).memWrite _ _).completes rfl
    · exact hq.completes rfl
    · exact (hq.setPc _).completes rfl
    · exact (hq.setPc _).completes_ite (exec_jrCond _ b1 s)
  · split
    · exact (hq.setPair _ _).completes (exec_ldPairN16 _ _ s)
    · exact (hq.setHl _).completes_setF (exec_addHlPair _ s)
  · split
    · exact (hq.memWrite _ _).completes rfl
    · exact (hq.setA _).completes rfl
    · exact (hq.memWrite _ _).completes rfl
    · exact (hq.setA _).completes rfl
    · exact ((hq.memWrite _ _).setHl _).completes rfl
    · exact ((hq.setA _).setHl _).completes rfl
    · exact ((hq.memWrite _ _).setHl _).completes rfl
    · exact ((hq.setA _).setHl _).completes rfl
  · split
    · exact (hq.setPair _ _).completes (exec_incPair _ s)
    · exact (hq.setPair _ _).completes (exec_decPair _ s)
  · split
    · exact (hq.setReg _ _).completes_setF (exec_incReg _ s)
    · exact (hq.memWrite _ _).completes_setF rfl
  · split
    · exact (hq.setReg _ _).completes_setF (exec_decReg _ s)
    · exact (hq.memWrite _ _).completes_setF rfl
  · split
    · exact (hq.setReg _ _).completes (exec_ldRegN8 _ b1 s)
    · exact (hq.memWrite _ _).completes rfl
  · split <;> exact (hq.setA _).completes_setF rfl

theorem completes_decodeX1 (y z : Nat) (s : State) : Completes (decodeX1 y z) s := by
  have hq := Quiet.refl s
  unfold decodeX1
  split
  · exact (hq.setReg _ _).completes (exec_ldRegReg _ _ s)
  · exact (hq.setReg _ _).completes (exec_ldRegAtHl _ s)
  · exact (hq.memWrite _ _).completes (exec_ldAtHlReg _ s)
  · exact ⟨_, rfl, ⟨[], rfl⟩, (by decide : Cost 4), .inl rfl, fun h => absurd rfl h, fun _ _ _ => rfl⟩

theorem completes_decodeX2 (y z : Nat) (s : State) : Completes (decodeX2 y z) s := by
  have hq := Quiet.refl s
  unfold decodeX2
  split
  · exact (hq.setA _).completes_setF (exec_aluReg _ _ s)
  · exact (hq.setA _).completes_setF (exec_aluAtHl _ s)

/-- R179. -/
theorem completes_decodeCb (op2 : Byte) (s : State) : Completes (decodeCb op2) s := by
  have hq := Quiet.refl s
  unfold decodeCb
  dsimp only
  split
  · exact (hq.setReg _ _).completes_setF (exec_rotReg _ _ s)
  · exact (hq.memWrite _ _).completes_setF (exec_rotAtHl _ s)
  · exact hq.completes_setF (exec_bitReg _ _ s)
  · exact hq.completes_setF (exec_bitAtHl _ s)
  · exact (hq.setReg _ _).completes (exec_resReg _ _ s)
  · exact (hq.memWrite _ _).completes (exec_resAtHl _ s)
  · exact (hq.setReg _ _).completes (exec_setReg _ _ s)
  · exact (hq.memWrite _ _).completes (exec_setAtHl _ s)

theorem completes_pop (p : StackPair) (s : State) : Completes (Instr.pop p) s := by
  have hq := (Quiet.refl s).setSp (s.cpu.sp + 2)
  by_cases hp : p = .af
  · subst hp
    exact (hq.setA _).completes_setF (i := .popAf) rfl
  · exact (hq.setStackPair hp _).completes (exec_pop p s)

theorem completes_ei (s : State) : Completes .ei s := by
  by_cases h : s.cpu.ime = .disabled
  · exact ⟨_, execEi_of_disabled h, ⟨[], rfl⟩, (by decide : Cost 4), .inl rfl, fun _ => rfl, fun h _ _ => absurd rfl h⟩
  · exact (Quiet.refl s).completes (execEi_of_not_disabled h)

/-- The illegal readings are left out. -/
theorem completes_decodeX3 (op : Byte) (y z : Nat) (b1 b2 : Byte) (s : State) (h : ∀ o, decodeX3 op y z b1 b2 ≠ .illegal o) :
    Completes (decodeX3 op y z b1 b2) s := by
  have hq := Quiet.refl s
  revert h
  unfold decodeX3
  split
  · split <;> intro h
    · exact (hq.memWrite _ _).completes rfl
    · exact (hq.setSp _).completes_setF rfl
    · exact (hq.setA _).completes rfl
    · exact (hq.setHl _).completes_setF rfl
    · exact ((hq.setSp _).setPc _).completes_ite (exec_retCond _ s)
  · split <;> intro h
    · exact ((hq.setSp _).setPc _).completes rfl
    · exact ⟨_, rfl, ⟨[], rfl⟩, (by decide : Cost 16), .inl rfl, fun _ => rfl, fun _ _ h => absurd rfl h⟩
    · exact (hq.setPc _).completes rfl
    · exact (hq.setSp _).completes rfl
    · exact completes_pop _ s
  · split <;> intro h
    · exact (hq.memWrite _ _).completes rfl
    · exact (hq.memWrite _ _).completes rfl
    · exact (hq.setA _).completes rfl
    · exact (hq.setA _).completes rfl
    · exact (hq.setPc _).completes_ite (exec_jpCond _ _ s)
  · split <;> intro h
    · exact (hq.setPc _).completes rfl
    · exact completes_decodeCb b1 s
    · exact ⟨_, rfl, ⟨[], rfl⟩, (by decide : Cost 4), .inl rfl, fun _ => rfl, fun _ h _ => absurd rfl h⟩
    · exact completes_ei s
    · exact absurd rfl (h op)
  · split <;> intro h
    · exact (hq.call _).completes_ite (exec_callCond _ _ s)
    · exact absurd rfl (h op)
  · split <;> intro h
    · exact (hq.call _).completes rfl
    · exact absurd rfl (h op)
    · exact absurd rfl (h op)
    · exact absurd rfl (h op)
    · exact ((hq.pushByte _).pushByte _).completes (exec_push _ s)
  · intro h
    exact (hq.setA _).completes_setF (exec_aluN8 _ b1 s)
  · intro h
    exact (hq.call _).completes (exec_rst _ s)

theorem completes_decodeOp (op b1 b2 : Byte) (s : State) (h : ∀ o, decodeOp op b1 b2 ≠ .illegal o) :
    Completes (decodeOp op b1 b2) s := by
  revert h
  unfold decodeOp
  dsimp only
  split <;> intro h
  · exact completes_decodeX0 _ _ b1 b2 s
  · exact completes_decodeX1 _ _ s
  · exact completes_decodeX2 _ _ s
  · exact completes_decodeX3 op _ _ b1 b2 s h

/-- Every well-formed instruction but an illegal byte is what the decoder answers for its own bytes. -/
theorem completes_of_wf {i : Instr} (hwf : i.wf = true) (h : ∀ op, i ≠ .illegal op) (s : State) : Completes i s := by
  obtain ⟨op, tail, -, -, hread⟩ := readBack i hwf
  rw [← hread []] at h ⊢
  exact completes_decodeOp _ _ _ s h

/-! ## The table's row for 0xCB (R314) -/

theorem exec_decodeCb (op2 : Byte) (s : State) : exec (decodeCb op2) s = execPrefixCb op2 s := by
  unfold decodeCb execPrefixCb
  dsimp only
  generalize op2.toNat / 64 = x
  cases Operand8.ofField (op2.toNat % 8) with
  | reg r =>
    match x with
    | 0 => exact exec_rotReg _ r s
    | 1 => exact exec_bitReg _ r s
    | 2 => exact exec_resReg _ r s
    | _ + 3 => exact exec_setReg _ r s
  | atHl =>
    match x with
    | 0 => exact exec_rotAtHl _ s
    | 1 => exact exec_bitAtHl _ s
    | 2 => exact exec_resAtHl _ s
    | _ + 3 => exact exec_setAtHl _ s

/-- Settles O35: both sides run the operation the fields of the second byte name, and that instruction completes. -/
theorem prefixRunsSecondByte : Obligations.PrefixRunsSecondByte := by
  intro op2 s
  obtain ⟨t, ht, -⟩ := completes_decodeCb op2 s
  exact ⟨t, (exec_decodeCb op2 s).symm.trans ht, ht⟩

/-! ## The obligations on every instruction -/

/-- The effect of an instruction lies in the storage, the CPU and the cost, so it leaves the fault record. -/
theorem State.writes_fault (s : State) (ws : List (Word × Byte)) : (s.writes ws).fault = s.fault := by
  induction ws generalizing s with
  | nil => rfl
  | cons w rest ih => exact (ih (s.memWrite w.1 w.2)).trans (s.memWrite_frame w.1 w.2).fault

theorem Effect.fault {i : Instr} {s t : State} (h : Effect i s t) : t.fault = s.fault := by
  obtain ⟨ws, hws⟩ := h.writes
  rw [hws]
  exact s.writes_fault ws

theorem wf_of_ne {i : Instr} (hill : ∀ op, i ≠ .illegal op) (hpre : ∀ op2, i ≠ .prefixCb op2) : i.wf = true := by
  cases i with
  | illegal op => exact absurd rfl (hill op)
  | prefixCb op2 => exact absurd rfl (hpre op2)
  | _ => rfl

/-- Whatever is no illegal byte completes; the row for 0xCB has the effect of the CB instruction it runs. -/
theorem exec_effect {i : Instr} (hill : ∀ op, i ≠ .illegal op) (s : State) :
    ∃ j t, exec i s = .next t ∧ Effect j s t := by
  by_cases hpre : ∃ op2, i = .prefixCb op2
  · obtain ⟨op2, rfl⟩ := hpre
    obtain ⟨t, ht, heffect⟩ := completes_decodeCb op2 s
    exact ⟨_, t, (exec_decodeCb op2 s).symm.trans ht, heffect⟩
  · exact ⟨i, completes_of_wf (wf_of_ne hill fun op2 h => hpre ⟨op2, h⟩) hill s⟩

/-- Settles O10: the effect of an instruction bounds its cost and leaves the fault record. -/
theorem instructionsCompleteInFourToTwentyFour : Obligations.InstructionsCompleteInFourToTwentyFour := by
  intro i s hill
  obtain ⟨j, t, ht, heffect⟩ := exec_effect hill s
  obtain ⟨hmin, hmax, hunits⟩ := heffect.cost
  exact ⟨t, ht, hmin, hmax, hunits, heffect.fault⟩

/-- Settles O60: the effect of an instruction names the writers of F, of the halted flag and of IME; an illegal byte
writes none. -/
theorem flagAndControlWriters : Obligations.FlagAndControlWriters := by
  intro i s t hwf hexec
  by_cases hill : ∃ op, i = .illegal op
  · obtain ⟨op, rfl⟩ := hill
    cases hexec
    exact ⟨fun _ => rfl, fun _ => rfl, fun _ _ _ => rfl⟩
  · obtain ⟨u, hu, heffect⟩ := completes_of_wf hwf (fun op h => hill ⟨op, h⟩) s
    obtain rfl : u = t := by simpa [hu] using hexec
    exact ⟨fun hw => heffect.flags.resolve_right (fun h => hw h.1), heffect.halted, heffect.ime⟩

end Sys2Proof.Machine
end

section
/-! SUPPORT. The system step as a whole (60_exceptions.md rules R400 to R422): its inversion, the instruction it fetches, and one
induction over the parts of a step for what every part keeps. -/

namespace Sys2Proof.Machine

/-! ## The fetch (R171) -/

/-- The bytes at PC are read as the instruction they encode, and PC moves past them. -/
theorem State.fetched_of_holdsAtPc {b : State} {i : Instr} (hwf : i.wf = true) (h : b.holdsAtPc i) :
    b.fetched = i ∧ b.nextPc = b.cpu.pc + BitVec.ofNat 16 (encode i).length := by
  obtain ⟨op, tail, hencode, hlen, hread⟩ := readBack i hwf
  have hbyte : ∀ k, k < tail.length + 1 → b.memRead (b.cpu.pc + BitVec.ofNat 16 k) = (op :: tail).getD k 0 := by
    simpa [State.holdsAtPc, hencode] using h
  have hop : b.memRead b.cpu.pc = op := by simpa using hbyte 0 (by omega)
  refine ⟨?_, by rw [State.nextPc, hop, hlen, hencode, List.length_cons]⟩
  rw [State.fetched, hop]
  match tail with
  | [] => exact hread [_, _]
  | [b1] =>
    have h1 : b.memRead (b.cpu.pc + 1) = b1 := hbyte 1 (by simp)
    rw [h1]
    exact hread [_]
  | [b1, b2] =>
    have h1 : b.memRead (b.cpu.pc + 1) = b1 := hbyte 1 (by simp)
    have h2 : b.memRead (b.cpu.pc + 2) = b2 := hbyte 2 (by simp)
    rw [h1, h2]
    exact hread []
  | _ :: _ :: _ :: _ =>
    have hmax := opcodeLength_le_three op
    simp only [List.length_cons] at hlen
    omega

/-! ## The step and its inversion (R400) -/

/-- No instruction is refused and none answers a fault: R182's bytes leave a state too (log 8). -/
theorem exec_answers_next (i : Instr) (s : State) : ∃ t, exec i s = .next t := by
  by_cases hill : ∃ op, i = .illegal op
  · obtain ⟨op, rfl⟩ := hill
    exact ⟨_, rfl⟩
  · obtain ⟨_, t, ht, -⟩ := exec_effect (fun op h => hill ⟨op, h⟩) s
    exact ⟨t, ht⟩

theorem step_of_runs {s t : State} (hruns : s.runs) (hcpu : cpuStep s.atBoundary = .next t) :
    step s = .next (t.finishStep s.atBoundary.cpu.ime) := by
  obtain ⟨hfault, hhalted⟩ := hruns
  simp [step, hfault, systemStep, hhalted, hcpu]

theorem State.finishStep_of_fault {s : State} (h : s.fault ≠ none) (before : Ime) : s.finishStep before = s := by
  rw [State.finishStep, if_pos (Option.isSome_iff_ne_none.mpr h)]

theorem State.finishStep_of_no_fault {s : State} (h : s.fault = none) (before : Ime) :
    s.finishStep before = (s.promoteIme before).advance := by
  rw [State.finishStep, h]
  rfl

/-- An unfaulted machine either skips (halted) or runs the fetched instruction. -/
theorem step_cases {s : State} (hfault : s.fault = none) :
    (¬ s.runs ∧ step s = .next (s.atBoundary.charge 4).advance) ∨
    (s.runs ∧ ∃ t, exec s.atBoundary.fetched (s.atBoundary.setPc s.atBoundary.nextPc) = .next t ∧
      step s = .next (t.finishStep s.atBoundary.cpu.ime)) := by
  cases hhalted : s.atBoundary.cpu.halted with
  | true => exact .inl ⟨fun h => by simp [h.2] at hhalted, step_of_halted hfault hhalted⟩
  | false =>
    obtain ⟨t, ht⟩ := exec_answers_next s.atBoundary.fetched (s.atBoundary.setPc s.atBoundary.nextPc)
    exact .inr ⟨⟨hfault, hhalted⟩, t, ht, step_of_runs ⟨hfault, hhalted⟩ ht⟩

/-- Settles O5: the step's own definition, for the instruction whose bytes the fetch reads. -/
theorem stepRunsDecodedInstruction : Obligations.StepRunsDecodedInstruction := by
  rintro s b i rfl hruns hwf hholds
  obtain ⟨hfetched, hnext⟩ := State.fetched_of_holdsAtPc hwf hholds
  obtain ⟨t, ht⟩ := exec_answers_next i (s.atBoundary.setPc s.atBoundary.nextPc)
  rw [step_of_runs (t := t) hruns (by rw [cpuStep, hfetched, ht]), ← hnext, ht]
  cases hfault : t.fault with
  | none =>
    rw [State.finishStep_of_no_fault hfault]
    simp [hfault, State.promoteIme, State.advance]
  | some r =>
    rw [State.finishStep_of_fault (by simp [hfault])]
    simp [hfault]

/-- Settles O7: the first case of the step. -/
theorem faultedMachineTakesNoStep : Obligations.FaultedMachineTakesNoStep := by
  intro s r h
  rw [step, h]

/-! ## The fetch of an illegal byte (R182, R420) -/

theorem State.fetched_illegal_iff (b : State) :
    (∃ op, b.fetched = .illegal op) ↔ b.memRead b.cpu.pc ∈ illegalOpcodes :=
  (illegalBytesAreEleven _ _ _).1

theorem State.fetched_of_illegal {b : State} (h : b.memRead b.cpu.pc ∈ illegalOpcodes) :
    b.fetched = .illegal (b.memRead b.cpu.pc) := by
  obtain ⟨op, hop⟩ := b.fetched_illegal_iff.mpr h
  rw [hop, (illegalBytesAreEleven _ _ _).2 op hop]

/-- R182's bytes are one byte long. -/
theorem opcodeLength_of_illegal {op : Byte} (h : op ∈ illegalOpcodes) : opcodeLength op = 1 := by
  unfold illegalOpcodes at h
  fin_cases h <;> rfl

theorem cpuStep_of_illegal {b : State} (h : b.memRead b.cpu.pc ∈ illegalOpcodes) :
    cpuStep b = .next { b with
      cpu := { b.cpu with pc := b.cpu.pc + 1 }
      fault := some { op := b.memRead b.cpu.pc, addr := b.cpu.pc }
      cycles := 0 } := by
  have hback : b.cpu.pc + 1 - 1 = b.cpu.pc := by bv_omega
  rw [cpuStep, State.fetched_of_illegal h, State.nextPc, opcodeLength_of_illegal h]
  show Host.Outcome.next ((b.setPc (b.cpu.pc + 1)).raiseUnknownOpcode _ (b.cpu.pc + 1 - 1)) = _
  rw [hback]
  rfl

/-- Settles O8: the CPU part leaves the record, which ends the step at once and is all the next step answers. -/
theorem illegalFetchFaults : Obligations.IllegalFetchFaults := by
  refine ⟨fun op s => rfl, ?_⟩
  rintro s b t rfl hruns hill rfl
  exact ⟨(step_of_runs hruns (cpuStep_of_illegal hill)).trans (by rw [State.finishStep_of_fault (by simp)]),
    faultedMachineTakesNoStep _ { op := _, addr := _ } rfl⟩

/-! ## What every part of a step keeps -/

/-- A relation between machines that every single change of a step but the fault record respects. -/
structure Kept (R : State → State → Prop) : Prop where
  refl : ∀ s, R s s
  trans : ∀ {s t u}, R s t → R t u → R s u
  cpu : ∀ (s : State) (c : Cpu) (n : Nat), c.f = s.cpu.f ∨ c.f.toNat % 16 = 0 → R s { s with cpu := c, cycles := n }
  out : ∀ (s : State) (o : Output), R s { s with out := o }
  pressed : ∀ (s : State) (v : Byte), R s { s with pressed := v }
  input : ∀ (s : State) (evs : List (List InputEvent)) (q : Bool),
    R s { s with launch := { s.launch with input := evs, quit := q } }
  memWrite : ∀ (s : State) (a : Word) (v : Byte), R s (s.memWrite a v)
  setIf : ∀ (s : State) (v : Byte), R s (s.setIo 0xFF0F v)
  timer : ∀ (s : State) (n : Nat), R s (s.timerAdvance n)
  ppu : ∀ (s : State) (n : Nat), R s (s.ppuAdvance n)
  apu : ∀ (s : State) (n : Nat), R s (s.apuAdvance n)

theorem State.writes_cpu (s : State) (ws : List (Word × Byte)) : (s.writes ws).cpu = s.cpu := by
  induction ws generalizing s with
  | nil => rfl
  | cons w rest ih => exact (ih (s.memWrite w.1 w.2)).trans (s.memWrite_cpu w.1 w.2)

namespace Kept
variable {R : State → State → Prop} (hR : Kept R)
include hR

theorem writes (s : State) (ws : List (Word × Byte)) : R s (s.writes ws) := by
  induction ws generalizing s with
  | nil => exact hR.refl s
  | cons w rest ih => exact hR.trans (hR.memWrite s w.1 w.2) (ih _)

theorem effect {i : Instr} {s t : State} (h : Effect i s t) : R s t := by
  obtain ⟨ws, hws⟩ := h.writes
  rw [hws]
  refine hR.trans (hR.writes s ws) (hR.cpu _ _ _ ?_)
  rw [s.writes_cpu ws]
  exact h.flags.imp_right And.right

theorem applyEvent (s : State) (ev : InputEvent) : R s (s.applyEvent ev) := by
  cases ev with
  | press btn => exact hR.trans (hR.pressed s _) (hR.setIf _ _)
  | release btn => exact hR.pressed s _
  | quit => exact hR.input s _ true

theorem applyEvents (evs : List InputEvent) (s : State) : R s (evs.foldl State.applyEvent s) := by
  induction evs generalizing s with
  | nil => exact hR.refl s
  | cons ev rest ih => exact hR.trans (hR.applyEvent s ev) (ih _)

theorem atBoundary (s : State) : R s s.atBoundary := by
  have hclear : R s s.clearOutput := hR.out s _
  refine hR.trans hclear ?_
  unfold State.atBoundary State.applyInput
  split
  · exact hR.refl _
  · exact hR.trans (hR.input _ _ _) (hR.applyEvents _ _)

/-- An update of CPU registers other than F. -/
theorem registers (s : State) (c : Cpu) (h : c.f = s.cpu.f) : R s { s with cpu := c } := hR.cpu s c s.cycles (.inl h)

theorem push16 (s : State) (v : Word) : R s (s.push16 v) := by
  rw [State.push16_eq]
  exact hR.trans (hR.trans (hR.memWrite _ _ _) (hR.memWrite _ _ _)) (hR.cpu _ _ _ (.inl (by simp)))

theorem setPc (s : State) (v : Word) : R s (s.setPc v) := hR.registers s _ rfl

theorem setIme (s : State) (v : Ime) : R s (s.setIme v) := hR.registers s _ rfl

theorem takeInterrupt (s : State) (k : Nat) : R s (s.takeInterrupt k) :=
  hR.trans (hR.trans (hR.trans (hR.setIme s _) (hR.setIf _ _)) (hR.push16 _ _)) (hR.setPc _ _)

theorem service (s : State) : R s s.service := by
  have hwake : R s s.wake := by
    unfold State.wake
    split
    · exact hR.registers s _ rfl
    · exact hR.refl s
  refine hR.trans hwake ?_
  unfold State.service State.dispatch
  split_ifs
  · split
    · exact hR.takeInterrupt _ _
    · exact hR.refl _
  · exact hR.refl _

theorem advance (s : State) : R s s.advance :=
  hR.trans (hR.trans (hR.trans (hR.timer s _) (hR.ppu _ _)) (hR.apu _ _)) (hR.service _)

theorem promoteIme (s : State) (before : Ime) : R s (s.promoteIme before) := by
  unfold State.promoteIme
  split
  · exact hR.setIme s _
  · exact hR.refl s

theorem finishStep (s : State) (before : Ime) : R s (s.finishStep before) := by
  unfold State.finishStep
  split
  · exact hR.refl s
  · exact hR.trans (hR.promoteIme s before) (hR.advance _)

section
variable (hfault : ∀ (s : State) (op : Byte) (addr : Word), R s (s.raiseUnknownOpcode op addr))
include hfault

theorem exec {i : Instr} {s t : State} (h : exec i s = .next t) : R s t := by
  by_cases hill : ∃ op, i = .illegal op
  · obtain ⟨op, rfl⟩ := hill
    cases h
    exact hfault _ _ _
  · obtain ⟨_, u, hu, heffect⟩ := exec_effect (fun op h => hill ⟨op, h⟩) s
    obtain rfl : u = t := by simpa [hu] using h
    exact hR.effect heffect

/-- A relation that the fault record does not enter is kept by every step. -/
theorem step {s t : State} (h : step s = .next t) : R s t := by
  have hnone : s.fault = none := by
    by_contra hsome
    obtain ⟨r, hr⟩ := Option.ne_none_iff_exists'.mp hsome
    rw [faultedMachineTakesNoStep s r hr] at h
    cases h
  refine hR.trans (hR.atBoundary s) ?_
  rcases step_cases hnone with ⟨-, hstep⟩ | ⟨-, u, hu, hstep⟩ <;> cases hstep.symm.trans h
  · exact hR.trans (hR.cpu _ _ 4 (.inl rfl)) (hR.advance _)
  · exact hR.trans (hR.trans (hR.setPc _ s.atBoundary.nextPc) (hR.exec hfault hu)) (hR.finishStep u _)

end

end Kept

/-! ## The fault record (R420) -/

theorem kept_fault : Kept (fun s t => t.fault = s.fault) where
  refl _ := rfl
  trans h h' := h'.trans h
  cpu _ _ _ _ := rfl
  out _ _ := rfl
  pressed _ _ := rfl
  input _ _ _ := rfl
  memWrite s a v := (s.memWrite_frame a v).fault
  setIf _ _ := rfl
  timer s n := (s.timerAdvance_frame n).fault
  ppu s n := (s.ppuAdvance_frame n).fault
  apu _ _ := rfl

/-- Settles O9: a halted step and a completed instruction keep the empty record through the devices and the service; the
other outcome is the illegal fetch. -/
theorem stepIsTotal : Obligations.StepIsTotal := by
  intro s hnone
  have hboundary : s.atBoundary.fault = none := s.atBoundary_fault.trans hnone
  rcases step_cases hnone with ⟨hruns, hstep⟩ | ⟨hruns, t, ht, hstep⟩
  · refine ⟨_, hstep, iff_of_false (fun h => h ?_) (fun h => hruns h.1)⟩
    exact (kept_fault.advance _).trans hboundary
  · refine ⟨_, hstep, ?_⟩
    by_cases hill : s.atBoundary.memRead s.atBoundary.cpu.pc ∈ illegalOpcodes
    · obtain rfl : _ = t := by simpa [cpuStep_of_illegal hill] using (show cpuStep s.atBoundary = .next t from ht)
      rw [State.finishStep_of_fault (by simp)]
      exact iff_of_true (by simp) ⟨hruns, hill⟩
    · obtain ⟨_, u, hu, heffect⟩ :=
        exec_effect (fun op h => hill (s.atBoundary.fetched_illegal_iff.mp ⟨op, h⟩)) (s.atBoundary.setPc s.atBoundary.nextPc)
      obtain rfl : u = t := by simpa [hu] using ht
      refine iff_of_false (fun h => h ?_) (fun h => hill h.2)
      exact (kept_fault.finishStep u _).trans (heffect.fault.trans hboundary)

/-! ## The constants of the session (R76, R113, R8) -/

theorem State.romCell_notMem_writeCells (s : State) (addr : Word) (o : Nat) : (Store.rom, o) ∉ s.writeCells addr := by
  unfold State.writeCells State.vramCell
  dsimp only
  split_ifs <;> simp

theorem DeviceFrame.sessionKept {s t : State} (h : DeviceFrame s t) : SessionKept s t where
  cart := h.cart
  rom o := h.cells .rom o (fun hm => nomatch hm.1)
  sampleRate := by rw [h.launch]
  batchSize := by rw [h.launch]

theorem WriteFrame.sessionKept {s t : State} {addr : Word} (h : WriteFrame s addr t) : SessionKept s t where
  cart := h.cart
  rom o := h.cells .rom o (s.romCell_notMem_writeCells addr o)
  sampleRate := by rw [h.launch]
  batchSize := by rw [h.launch]

theorem kept_session : Kept SessionKept where
  refl _ := ⟨rfl, fun _ => rfl, rfl, rfl⟩
  trans h h' := ⟨h'.cart.trans h.cart, fun o => (h'.rom o).trans (h.rom o), h'.sampleRate.trans h.sampleRate,
    h'.batchSize.trans h.batchSize⟩
  cpu _ _ _ _ := ⟨rfl, fun _ => rfl, rfl, rfl⟩
  out _ _ := ⟨rfl, fun _ => rfl, rfl, rfl⟩
  pressed _ _ := ⟨rfl, fun _ => rfl, rfl, rfl⟩
  input _ _ _ := ⟨rfl, fun _ => rfl, rfl, rfl⟩
  memWrite s a v := (s.memWrite_frame a v).sessionKept
  setIf s v := (DeviceFrame.setIo s 0xFF0F v (.inr rfl)).sessionKept
  timer s n := (s.timerAdvance_frame n).sessionKept
  ppu s n := (s.ppuAdvance_frame n).sessionKept
  apu s n := (s.apuAdvance_frame n).sessionKept

/-- Settles O59: no bus write and no device reaches the profile, the image or the audio parameters. -/
theorem sessionConstants : Obligations.SessionConstants :=
  fun _ _ h => kept_session.step (fun _ _ _ => ⟨rfl, fun _ => rfl, rfl, rfl⟩) h

end Sys2Proof.Machine
end

section
/-! SUPPORT. Frame compositing (61_devices_ppu.md rules R460 to R471): the shape of a frame, and that a rendered frame depends
on nothing a device advance changes. -/

namespace Sys2Proof.Machine

/-! ## The shape of a frame (R471) -/

theorem frameOf_length (f : Nat → Nat → Pixel) : (frameOf f).length = 144 := by simp [frameOf, Config.visibleLines]

theorem length_of_mem_frameOf {f : Nat → Nat → Pixel} {row : List Pixel} (h : row ∈ frameOf f) : row.length = 160 := by
  obtain ⟨y, -, rfl⟩ := List.mem_map.mp h
  simp [Config.screenWidth]

theorem frameOf_getElem? (f : Nat → Nat → Pixel) {x y : Nat} (hx : x < 160) (hy : y < 144) :
    ((frameOf f)[y]?.bind fun row => row[x]?) = some (f x y) := by
  simp [frameOf, Config.screenWidth, Config.visibleLines, hx, hy]

/-- Only the pixels of the screen enter a frame. -/
theorem frameOf_congr {f g : Nat → Nat → Pixel} (h : ∀ x y, x < 160 → y < 144 → f x y = g x y) : frameOf f = frameOf g :=
  List.map_congr_left fun y hy => List.map_congr_left fun x hx => h x y (List.mem_range.mp hx) (List.mem_range.mp hy)

/-- With background and window off the pixel is colour index 0 through BGP (R467). -/
theorem State.bgPixel_of_bgOff {s : State} (h : s.bgOff = true) (x y : Nat) :
    (s.bgPixel x y).colour = shade (s.io 0xFF47) 0 := by
  simp [State.bgPixel, State.windowCovers, State.background, h]

/-- Settles O51: the frame maps the rows and columns of the screen to their pixels, and the two switches of LCDC leave the
background pixel and the shade of colour index 0. -/
theorem frameShape : Obligations.FrameShape := by
  intro s
  refine ⟨frameOf_length _, fun row h => length_of_mem_frameOf h, fun x y hx hy => frameOf_getElem? s.pixel hx hy,
    fun x y hsprites => ?_, fun x y hmono hbg => ?_⟩
  · have hoff : bit s.lcdc 1 = false := hsprites
    simp [State.pixel, hoff]
  · have hoff : s.bgOff = true := by
      have hlcdc : bit s.lcdc 0 = false := hbg
      simp [State.bgOff, hmono, hlcdc]
    rw [State.bgPixel_of_bgOff hoff]
    simp [shade]

/-! ## What a frame depends on (R470) -/

theorem State.bgTileBase_le (s : State) (t : Byte) : s.bgTileBase t ≤ 0x97F0 := by
  have hu := t.isLt
  have hs := BitVec.toInt_lt (x := t)
  unfold State.bgTileBase
  split_ifs <;> omega

theorem State.tileMap_le (s : State) (sel : Nat) : s.tileMap sel ≤ 0x9C00 := by
  unfold State.tileMap
  split_ifs <;> omega

section
variable {s t : State} (h : DeviceFrame s t)
include h

theorem DeviceFrame.lcdc : t.lcdc = s.lcdc := h.io 0xFF40 (by decide) (by decide)

theorem DeviceFrame.vramByte (bank : Bool) {a : Nat} (ha : a < 0xFF00) : t.vramByte bank a = s.vramByte bank a := by
  unfold State.vramByte
  rw [h.cells .vram1 _ (fun hm => nomatch hm.1), h.io a (by omega) (by omega)]

theorem DeviceFrame.tileColour (bank : Bool) {base r : Nat} (c : Nat) (ha : base + 2 * r + 1 < 0xFF00) :
    t.tileColour bank base c r = s.tileColour bank base c r := by
  unfold State.tileColour
  rw [h.vramByte bank (by omega), h.vramByte bank ha]

theorem DeviceFrame.cgbColour {pal : Store} (hpal : pal ≠ .m) (p ci : Nat) : t.cgbColour pal p ci = s.cgbColour pal p ci := by
  unfold State.cgbColour
  rw [h.cells pal _ (fun hm => hpal hm.1), h.cells pal _ (fun hm => hpal hm.1)]

theorem DeviceFrame.bgTileBase (tile : Byte) : t.bgTileBase tile = s.bgTileBase tile := by
  unfold State.bgTileBase
  rw [h.lcdc]

theorem DeviceFrame.tilePixel {m r : Nat} (c : Nat) (hm : m < 0xFF00) (hr : r < 8) :
    t.tilePixel m c r = s.tilePixel m c r := by
  have hbase := s.bgTileBase_le (s.io m)
  have hrow (b : Bool) : (if b then 7 - r else r) < 8 := by split_ifs <;> omega
  have hcolour (bank b : Bool) (col : Nat) :=
    h.tileColour bank col (base := s.bgTileBase (s.io m)) (r := if b then 7 - r else r) (by have := hrow b; omega)
  unfold State.tilePixel
  dsimp only
  rw [h.cart, h.io m (by omega) (by omega), h.cells .vram1 _ (fun hm => nomatch hm.1), h.bgTileBase,
    h.io 0xFF47 (by decide) (by decide)]
  simp only [hcolour, h.cgbColour (pal := .bgpal) (by decide)]

theorem DeviceFrame.bgOff : t.bgOff = s.bgOff := by
  unfold State.bgOff
  rw [h.cart, h.lcdc]

theorem DeviceFrame.tileMap (sel : Nat) : t.tileMap sel = s.tileMap sel := by
  unfold State.tileMap
  rw [h.lcdc]

theorem DeviceFrame.background (x y : Nat) : t.background x y = s.background x y := by
  have hmap := s.tileMap_le 3
  unfold State.background
  rw [h.bgOff, h.io 0xFF47 (by decide) (by decide), h.io 0xFF43 (by decide) (by decide),
    h.io 0xFF42 (by decide) (by decide), h.tileMap]
  dsimp only
  rw [h.tilePixel _ (by omega) (by omega)]

theorem DeviceFrame.windowCovers (x y : Nat) : t.windowCovers x y = s.windowCovers x y := by
  unfold State.windowCovers
  rw [h.bgOff, h.lcdc, h.io 0xFF4B (by decide) (by decide), h.io 0xFF4A (by decide) (by decide)]

theorem DeviceFrame.window {x y : Nat} (hx : x < 160) (hy : y < 144) : t.window x y = s.window x y := by
  have hmap := s.tileMap_le 6
  unfold State.window
  rw [h.io 0xFF4B (by decide) (by decide), h.io 0xFF4A (by decide) (by decide), h.tileMap]
  exact h.tilePixel _ (by omega) (by omega)

theorem DeviceFrame.bgPixel {x y : Nat} (hx : x < 160) (hy : y < 144) : t.bgPixel x y = s.bgPixel x y := by
  unfold State.bgPixel
  rw [h.windowCovers, h.window hx hy, h.background]

theorem DeviceFrame.spriteColour {i : Nat} (hi : i < 40) (x y : Nat) : t.spriteColour i x y = s.spriteColour i x y := by
  have htile := (s.io (0xFE00 + 4 * i + 2)).isLt
  have hheight : t.spriteHeight = s.spriteHeight := by
    unfold State.spriteHeight
    rw [h.lcdc]
  have hle : s.spriteHeight ≤ 16 := by
    unfold State.spriteHeight
    split_ifs <;> omega
  have hrow (b : Bool) (row : Nat) (hr : row < s.spriteHeight) :
      (if b then s.spriteHeight - 1 - row else row) < 16 := by split_ifs <;> omega
  unfold State.spriteColour
  rw [h.io (0xFE00 + 4 * i) (by omega) (by omega), h.io (0xFE00 + 4 * i + 1) (by omega) (by omega),
    h.io (0xFE00 + 4 * i + 2) (by omega) (by omega), h.io (0xFE00 + 4 * i + 3) (by omega) (by omega), hheight, h.cart]
  refine ite_congr rfl (fun hcovers => ?_) fun _ => rfl
  have hr := hrow (bit (s.io (0xFE00 + 4 * i + 3)) 6) (y + 16 - (s.io (0xFE00 + 4 * i)).toNat) (by omega)
  dsimp only
  rw [h.tileColour _ _ (by split_ifs at hr ⊢ <;> omega)]

theorem DeviceFrame.drawSprite (bg : BgPixel) {i : Nat} (hi : i < 40) (x y : Nat) (under : Pixel) :
    t.drawSprite bg x y under i = s.drawSprite bg x y under i := by
  have hwins (attr : Byte) : t.bgWins bg attr = s.bgWins bg attr := by
    unfold State.bgWins
    rw [h.cart, h.lcdc]
  have hpixel (ci : Nat) (attr : Byte) : t.spritePixel ci attr = s.spritePixel ci attr := by
    unfold State.spritePixel
    rw [h.cart, h.cgbColour (by decide), h.io 0xFF49 (by decide) (by decide), h.io 0xFF48 (by decide) (by decide)]
  unfold State.drawSprite
  rw [h.spriteColour hi]
  simp only [hwins, hpixel]

theorem DeviceFrame.pixel {x y : Nat} (hx : x < 160) (hy : y < 144) : t.pixel x y = s.pixel x y := by
  have hfold (bg : BgPixel) : (List.range Config.oamEntries).foldl (t.drawSprite bg x y) bg.colour =
      (List.range Config.oamEntries).foldl (s.drawSprite bg x y) bg.colour :=
    List.foldl_ext _ _ _ fun under i hi => h.drawSprite bg (List.mem_range.mp hi) x y under
  unfold State.pixel
  rw [h.bgPixel hx hy, h.lcdc]
  simp only [hfold]

theorem DeviceFrame.renderFrame : t.renderFrame = s.renderFrame := frameOf_congr fun _ _ => h.pixel

theorem DeviceFrame.whiteFrame : t.whiteFrame = s.whiteFrame := by
  unfold State.whiteFrame
  rw [h.cart]

end

end Sys2Proof.Machine
end

section
/-! SUPPORT. The PPU (61_devices_ppu.md rules R450 to R456): one tick as a move to the next place of the frame and the change to
the mode of that place, and what it requests and hands over. -/

namespace Sys2Proof.Machine

/-! ## Interrupt requests (R410) -/

theorem State.bit_requestInterrupt_io (s : State) (k i : Nat) (hi : i < 8) :
    bit ((s.requestInterrupt k).io 0xFF0F) i = (decide (i = k) || bit (s.io 0xFF0F) i) := by
  rw [State.requestInterrupt, State.io_setIo, if_pos rfl]
  exact bit_setBit _ k i hi

/-! ## One tick as a move (R450, R451) -/

/-- The PPU one place on, in the mode it had. -/
def Ppu.moved (p : Ppu) : Ppu :=
  if p.dot = 455 then { p with dot := 0, ly := (p.ly + 1) % 154 } else { p with dot := p.dot + 1 }

/-- The mode of the next place. -/
def Ppu.nextMode (p : Ppu) : PpuMode := PpuMode.at p.moved.dot p.moved.ly

/-- The machine with its PPU one place on. -/
def State.moved (s : State) : State := { s with ppu := s.ppu.moved }

theorem State.setMode_of_mode (s : State) (m : PpuMode) (h : s.ppu.mode = m) : s.setMode m = s := if_pos h

theorem Ppu.moved_of_line_end {p : Ppu} (h : p.dot = 455) : p.moved = { p with dot := 0, ly := (p.ly + 1) % 154 } := if_pos h

theorem Ppu.moved_of_not_line_end {p : Ppu} (h : p.dot ≠ 455) : p.moved = { p with dot := p.dot + 1 } := if_neg h

/-- At the end of a line the tick is the scanline boundary; elsewhere it looks for the two mode changes of a visible line. -/
theorem State.ppuTick_eq (s : State) :
    s.ppuTick =
      if s.ppu.dot = 455 then
        if s.moved.ppu.ly = 144 then s.moved.enterVBlank
        else if s.moved.ppu.ly < 144 then s.moved.setMode .oamScan else s.moved
      else if s.moved.ppu.ly < 144 ∧ s.moved.ppu.dot = 80 then s.moved.setMode .drawing
      else if s.moved.ppu.ly < 144 ∧ s.moved.ppu.dot = 252 then s.moved.setMode .hBlank else s.moved := by
  unfold State.ppuTick State.nextLine State.moved Config.dotsPerLine Config.visibleLines Config.linesPerFrame
  by_cases h : s.ppu.dot = 455
  · rw [if_pos h, if_pos (by omega), Ppu.moved_of_line_end h]
  · rw [if_neg h, if_neg (by omega), Ppu.moved_of_not_line_end h]

theorem State.ppuTick_of_enters {s : State} (h : s.ppu.entersVBlank) : s.ppuTick = s.moved.enterVBlank := by
  obtain ⟨hly, hdot⟩ := h
  rw [State.ppuTick_eq, if_pos hdot, if_pos (by simp [State.moved, Ppu.moved_of_line_end hdot, hly])]

theorem Ppu.moved_dot (p : Ppu) : p.moved.dot = if p.dot = 455 then 0 else p.dot + 1 := by
  unfold Ppu.moved
  split_ifs <;> rfl

theorem Ppu.moved_ly (p : Ppu) : p.moved.ly = if p.dot = 455 then (p.ly + 1) % 154 else p.ly := by
  unfold Ppu.moved
  split_ifs <;> rfl

theorem Ppu.moved_mode (p : Ppu) : p.moved.mode = p.mode := by
  unfold Ppu.moved
  split_ifs <;> rfl

/-- Anywhere else the tick is the change to the mode of the next place, where that is a change. -/
theorem State.ppuTick_of_not_enters {s : State} (hl : s.ppu.Legal) (h : ¬ s.ppu.entersVBlank) :
    s.ppuTick = s.moved.setMode s.ppu.nextMode := by
  have hline := hl.ly
  have hdot := s.ppu.moved_dot
  have hly := s.ppu.moved_ly
  have hmode := s.ppu.moved_mode.trans hl.mode
  have hkeep (hm : s.ppu.nextMode = s.moved.ppu.mode) : s.moved = s.moved.setMode s.ppu.nextMode :=
    (s.moved.setMode_of_mode _ hm.symm).symm
  rw [State.ppuTick_eq]
  unfold State.moved Ppu.nextMode Ppu.entersVBlank PpuMode.at at *
  by_cases hend : s.ppu.dot = 455
  · grind
  · grind

/-! ## The place of the PPU (R450, R451) -/

@[simp] theorem State.modeInterrupt_ppu (s : State) (m : PpuMode) : (s.modeInterrupt m).ppu = s.ppu := by
  unfold State.modeInterrupt
  split
  · split <;> rfl
  · rfl

@[simp] theorem State.setMode_ppu (s : State) (m : PpuMode) : (s.setMode m).ppu = { s.ppu with mode := m } := by
  unfold State.setMode
  split_ifs with h
  · rw [← h]
  · simp

@[simp] theorem State.enterVBlank_ppu (s : State) : s.enterVBlank.ppu = { s.ppu with mode := .vBlank } := by
  unfold State.enterVBlank State.emitFrame
  dsimp only
  split_ifs <;> simp

theorem Ppu.nextMode_of_enters {p : Ppu} (h : p.entersVBlank) : p.nextMode = .vBlank := by
  obtain ⟨hly, hdot⟩ := h
  rw [Ppu.nextMode, Ppu.moved_dot, Ppu.moved_ly, hly, hdot]
  rfl

/-- One tick from a legal place leads to the next place, in the mode of that place. -/
theorem State.ppuTick_ppu {s : State} (hl : s.ppu.Legal) :
    s.ppuTick.ppu = { s.ppu.moved with mode := s.ppu.nextMode } := by
  by_cases h : s.ppu.entersVBlank
  · rw [State.ppuTick_of_enters h, State.enterVBlank_ppu, Ppu.nextMode_of_enters h]
    rfl
  · rw [State.ppuTick_of_not_enters hl h, State.setMode_ppu]
    rfl

theorem Ppu.Legal.tick {p : Ppu} (h : p.Legal) : ({ p.moved with mode := p.nextMode } : Ppu).Legal where
  dot := by
    have hdot := h.dot
    rw [Ppu.moved_dot]
    split_ifs <;> omega
  ly := by
    have hly := h.ly
    rw [Ppu.moved_ly]
    split_ifs <;> omega
  mode := rfl

theorem Ppu.Legal.place_moved {p : Ppu} (h : p.Legal) : p.moved.place = (p.place + 1) % 70224 := by
  have hdot := h.dot
  have hly := h.ly
  rw [Ppu.place, Ppu.place, Ppu.moved_dot, Ppu.moved_ly]
  split_ifs <;> omega

theorem Ppu.Legal.place_lt {p : Ppu} (h : p.Legal) : p.place < 70224 := by
  have hdot := h.dot
  have hly := h.ly
  rw [Ppu.place]
  omega

theorem State.ppuTicks_place (n : Nat) {s : State} (h : s.ppu.Legal) :
    (iterate State.ppuTick n s).ppu.Legal ∧ (iterate State.ppuTick n s).ppu.place = (s.ppu.place + n) % 70224 := by
  induction n generalizing s with
  | zero => exact ⟨h, by rw [Nat.add_zero, Nat.mod_eq_of_lt h.place_lt, iterate]⟩
  | succ n ih =>
    have htick := State.ppuTick_ppu h
    have hplace : s.ppuTick.ppu.place = (s.ppu.place + 1) % 70224 := by
      rw [htick]
      exact h.place_moved
    obtain ⟨hlegal, hn⟩ := ih (htick ▸ h.tick)
    refine ⟨hlegal, hn.trans ?_⟩
    rw [hplace]
    omega

/-- The coincidence check at the end of an advance moves nothing (R454). -/
theorem State.ppuAdvance_ppu (s : State) (n : Nat) :
    (s.ppuAdvance n).ppu =
      { (iterate State.ppuTick n s).ppu with coinc := (iterate State.ppuTick n s).coincidence } := by
  unfold State.ppuAdvance State.coincidenceCheck
  dsimp only
  split_ifs <;> rfl

/-- Settles O48: n ticks, each a place on. -/
theorem ppuPosition : Obligations.PpuPosition := by
  intro s n h
  obtain ⟨⟨hdot, hly, hmode⟩, hplace⟩ := State.ppuTicks_place n h
  rw [State.ppuAdvance_ppu]
  exact ⟨⟨hdot, hly, hmode⟩, hplace⟩

/-! ## Requests (R452, R453) -/

theorem State.lcdOn_eq (s : State) : s.lcdOn = bit (s.io 0xFF40) 7 := rfl

/-- Entering mode `m` requests STAT (R453). -/
def State.modeRequests (s : State) (m : PpuMode) : Bool :=
  s.lcdOn && m.enableBit.any (bit (s.io 0xFF41))

theorem State.modeRequests_iff (s : State) (m : PpuMode) :
    s.modeRequests m = true ↔ s.lcdOn = true ∧ ∃ k, m.enableBit = some k ∧ bit (s.io 0xFF41) k = true := by
  rw [State.modeRequests, Bool.and_eq_true, Option.any_eq_true]

theorem State.modeInterrupt_eq (s : State) (m : PpuMode) :
    s.modeInterrupt m = if s.modeRequests m then s.requestInterrupt 1 else s := by
  cases m <;> simp [State.modeInterrupt, State.modeRequests, PpuMode.enableBit]

theorem State.bit_setMode_io (s : State) (m : PpuMode) (i : Nat) (hi : i < 8) :
    bit ((s.setMode m).io 0xFF0F) i =
      (decide (i = 1 ∧ s.ppu.mode ≠ m) && s.modeRequests m || bit (s.io 0xFF0F) i) := by
  unfold State.setMode
  split_ifs with hm
  · simp [hm]
  · have hreq : ({ s with ppu := { s.ppu with mode := m } } : State).modeRequests m = s.modeRequests m := rfl
    rw [State.modeInterrupt_eq, hreq]
    cases s.modeRequests m with
    | false => simp; rfl
    | true =>
      rw [if_pos rfl, State.bit_requestInterrupt_io _ _ _ hi]
      simp [hm]
      rfl

/-- The line entry adds the VBlank request to those of mode 1. -/
theorem State.bit_enterVBlank_io (s : State) (i : Nat) (hi : i < 8) :
    bit (s.enterVBlank.io 0xFF0F) i =
      (decide (i = 0) && s.lcdOn || bit ((s.setMode .vBlank).io 0xFF0F) i) := by
  have hlcd : (s.setMode .vBlank).lcdOn = s.lcdOn := congrArg (bit · 7) ((s.setMode_frame .vBlank).io 0xFF40 (by decide) (by decide))
  have hemit (u : State) : u.emitFrame.io 0xFF0F = u.io 0xFF0F := rfl
  unfold State.enterVBlank
  dsimp only
  rw [hemit, hlcd]
  cases s.lcdOn with
  | false => simp
  | true =>
    rw [if_pos rfl, State.bit_requestInterrupt_io _ _ _ hi]
    simp

/-- A tick enters a mode exactly when the mode of the next place differs, and its enable bit is that mode's. -/
theorem Ppu.Legal.entersEnableBit_iff {p : Ppu} (h : p.Legal) (k : Nat) :
    p.entersEnableBit k ↔ p.mode ≠ p.nextMode ∧ p.nextMode.enableBit = some k := by
  have hly := h.ly
  have hdot := p.moved_dot
  have hline := p.moved_ly
  rw [h.mode]
  unfold Ppu.entersEnableBit Ppu.nextMode PpuMode.at PpuMode.enableBit
  grind

/-- The requests of one tick (R451 to R453). -/
theorem State.bit_ppuTick_io {s : State} (hl : s.ppu.Legal) (i : Nat) (hi : i < 8) :
    bit (s.ppuTick.io 0xFF0F) i = true ↔ bit (s.io 0xFF0F) i = true ∨
      (i = 0 ∧ s.lcdOn = true ∧ s.ppu.entersVBlank) ∨
      (i = 1 ∧ s.lcdOn = true ∧ ∃ k, s.ppu.entersEnableBit k ∧ bit (s.io 0xFF41) k = true) := by
  have hmode : bit ((s.moved.setMode s.ppu.nextMode).io 0xFF0F) i = true ↔ bit (s.io 0xFF0F) i = true ∨
      (i = 1 ∧ s.lcdOn = true ∧ ∃ k, s.ppu.entersEnableBit k ∧ bit (s.io 0xFF41) k = true) := by
    have hold : s.moved.ppu.mode = s.ppu.mode := s.ppu.moved_mode
    have hrequests : s.moved.modeRequests s.ppu.nextMode = s.modeRequests s.ppu.nextMode := rfl
    have hif : s.moved.io 0xFF0F = s.io 0xFF0F := rfl
    rw [State.bit_setMode_io _ _ _ hi, hold, hrequests, hif]
    simp only [hl.entersEnableBit_iff, Bool.or_eq_true, Bool.and_eq_true, decide_eq_true_eq, State.modeRequests_iff]
    grind
  by_cases h : s.ppu.entersVBlank
  · rw [Ppu.nextMode_of_enters h] at hmode
    have hlcd : s.moved.lcdOn = s.lcdOn := rfl
    rw [State.ppuTick_of_enters h, State.bit_enterVBlank_io _ _ hi, hlcd]
    rw [Bool.or_eq_true, Bool.and_eq_true, decide_eq_true_iff, hmode]
    grind
  · rw [State.ppuTick_of_not_enters hl h, hmode]
    simp [h]

/-! ## The frame handed over (R455) -/

@[simp] theorem State.setMode_out (s : State) (m : PpuMode) : (s.setMode m).out = s.out := by
  unfold State.setMode
  split_ifs
  · rfl
  · rw [State.modeInterrupt_eq]
    split_ifs <;> rfl

/-- Nothing that line 144 changes before the frame is drawn enters the frame. -/
theorem State.enterVBlank_frameOut (s : State) :
    s.enterVBlank.out.frame = some (if s.lcdOn then s.renderFrame else s.whiteFrame) := by
  have hmode := (s.setMode_frame .vBlank).toDeviceFrame
  have hframe : DeviceFrame s (if (s.setMode .vBlank).lcdOn then (s.setMode .vBlank).requestInterrupt 0 else s.setMode .vBlank) := by
    split
    · exact hmode.trans _ _ _ (DeviceFrame.requestInterrupt _ 0)
    · exact hmode
  unfold State.enterVBlank State.emitFrame
  dsimp only
  rw [hframe.renderFrame, hframe.whiteFrame, State.lcdOn, hframe.lcdc]
  rfl

/-! ## The coincidence check (R454) -/

theorem State.coincidenceCheck_coinc (s : State) : s.coincidenceCheck.ppu.coinc = s.coincidence := rfl

theorem State.bit_coincidenceCheck_io (s : State) (i : Nat) (hi : i < 8) :
    bit (s.coincidenceCheck.io 0xFF0F) i =
      ((decide (i = 1) && (s.lcdOn && !s.ppu.coinc && s.coincidence && bit (s.io 0xFF41) 6)) || bit (s.io 0xFF0F) i) := by
  have hio (u : State) (p : Ppu) : ({ u with ppu := p } : State).io 0xFF0F = u.io 0xFF0F := rfl
  unfold State.coincidenceCheck
  dsimp only
  rw [hio]
  cases s.lcdOn && !s.ppu.coinc && s.coincidence && bit (s.io 0xFF41) 6 with
  | false => simp
  | true =>
    rw [if_pos rfl, State.bit_requestInterrupt_io _ _ _ hi]
    simp

/-- Settles O49: the requests of a tick are its line entry's and its mode change's, and the frame is drawn at line 144 alone. -/
theorem ppuRequests : Obligations.PpuRequests := by
  intro s hl
  refine ⟨?_, ?_, fun k h2 hk => ?_, fun h => ?_, fun h => ⟨_, ?_, rfl⟩, ?_, ?_⟩
  · simpa [State.lcdOn_eq] using State.bit_ppuTick_io hl 0 (by decide)
  · simpa [State.lcdOn_eq] using State.bit_ppuTick_io hl 1 (by decide)
  · have h0 : k ≠ 0 := by omega
    have h1 : k ≠ 1 := by omega
    exact Bool.eq_iff_iff.mpr (by simpa [h0, h1] using State.bit_ppuTick_io hl k hk)
  · rw [State.ppuTick_of_not_enters hl h, State.setMode_out]
    rfl
  · rw [State.ppuTick_of_enters h, State.enterVBlank_frameOut]
    rfl
  · rw [State.coincidenceCheck_coinc, State.coincidence, decide_eq_true_iff]
  · rw [State.bit_coincidenceCheck_io _ _ (by decide)]
    grind [State.coincidence, State.lcdOn_eq]

/-! ## The LCD switched off (R456) -/

theorem State.modeInterrupt_of_lcdOff {s : State} (h : s.lcdOn = false) (m : PpuMode) : s.modeInterrupt m = s := by
  rw [State.modeInterrupt_eq, State.modeRequests, h]
  rfl

theorem State.setMode_mem_of_lcdOff {s : State} (h : s.lcdOn = false) (m : PpuMode) : (s.setMode m).mem = s.mem := by
  unfold State.setMode
  split_ifs
  · rfl
  · exact (congrArg State.mem (State.modeInterrupt_of_lcdOff (by exact h) m)).trans rfl

theorem State.enterVBlank_mem_of_lcdOff {s : State} (h : s.lcdOn = false) : s.enterVBlank.mem = s.mem := by
  have hmem := State.setMode_mem_of_lcdOff h .vBlank
  have hlcd : (s.setMode .vBlank).lcdOn = false := by
    rw [← h, State.lcdOn_eq, State.io, hmem]
    rfl
  unfold State.enterVBlank
  dsimp only
  rw [hlcd]
  exact hmem

theorem State.ppuTick_mem_of_lcdOff {s : State} (h : s.lcdOn = false) : s.ppuTick.mem = s.mem := by
  have hmoved : s.moved.lcdOn = false := h
  rw [State.ppuTick_eq]
  split_ifs
  · exact State.enterVBlank_mem_of_lcdOff hmoved
  · exact State.setMode_mem_of_lcdOff hmoved _
  · rfl
  · exact State.setMode_mem_of_lcdOff hmoved _
  · exact State.setMode_mem_of_lcdOff hmoved _
  · rfl

/-- The LCD stays off, since no tick changes LCDC. -/
theorem State.ppuTicks_mem_of_lcdOff {s : State} (h : s.lcdOn = false) (n : Nat) :
    (iterate State.ppuTick n s).mem = s.mem := by
  refine iterate_keeps _ (fun t => t.mem = s.mem) (fun t ht => (State.ppuTick_mem_of_lcdOff ?_).trans ht) n s rfl
  rw [← h, State.lcdOn_eq, State.io, ht]
  rfl

theorem State.ppuAdvance_mem_of_lcdOff {s : State} (h : s.lcdOn = false) (n : Nat) : (s.ppuAdvance n).mem = s.mem := by
  have hticks := State.ppuTicks_mem_of_lcdOff h n
  have hoff : (iterate State.ppuTick n s).lcdOn = false := by
    rw [← h, State.lcdOn_eq, State.io, hticks]
    rfl
  unfold State.ppuAdvance State.coincidenceCheck
  dsimp only
  rw [hoff]
  exact hticks

/-- STAT reads mode 0 with the LCD off (R62, R120). -/
theorem State.statRead_of_lcdOff {s : State} (h : s.lcdOn = false) : s.statRead.toNat % 4 = 0 := by
  have hfield : s.modeField = 0 := by
    rw [State.modeField, if_neg (by rw [← State.lcdOn_eq, h]; decide)]
  have hstored := toNat_and_mod_two_pow (s.io 0xFF41) 0xF8 2 rfl
  rw [State.statRead, hfield, BitVec.toNat_or, BitVec.toNat_or, Nat.or_mod_two_pow (n := 2), Nat.or_mod_two_pow (n := 2),
    hstored]
  cases s.ppu.coinc <;> rfl

/-- Settles O50: no request, so no byte changes; and the mode field is masked by the switch. -/
theorem lcdOffRequestsNothing : Obligations.LcdOffRequestsNothing := by
  intro s n hoff
  have hmem := State.ppuAdvance_mem_of_lcdOff hoff n
  have hlcd : (s.ppuAdvance n).lcdOn = false := by
    rw [State.lcdOn_eq, State.io, hmem]
    exact hoff
  have hread : (s.ppuAdvance n).memRead 0xFF41 = (s.ppuAdvance n).statRead := State.memRead_high _ _ (by decide)
  have hlyc : (iterate State.ppuTick n s).io 0xFF45 = s.io 0xFF45 := by
    rw [State.io, State.ppuTicks_mem_of_lcdOff hoff n]
    rfl
  refine ⟨hmem, hread ▸ State.statRead_of_lcdOff hlcd, ?_⟩
  rw [State.ppuAdvance_ppu, State.coincidence, hlyc, decide_eq_true_iff]

end Sys2Proof.Machine
end

section
/-! SUPPORT. The APU (62_devices_apu.md rules R500 to R511): what one cycle does to the sample stream and to a channel's length,
what n cycles make of it, and the trigger. -/

namespace Sys2Proof.Machine

/-! ## The sample stream (R507) -/

/-- The samples an APU run holds: those of the batches handed over and those pending. -/
def ApuRun.samples (run : ApuRun) : Nat := (run.done.map List.length).sum + run.apu.batch.length

/-- `run'` follows `run` on the sample stream after the accumulator has been given `gain`. -/
structure StreamStep (size gain : Nat) (run run' : ApuRun) : Prop where
  acc : run'.apu.acc = (run.apu.acc + gain) % 4194304
  samples : run'.samples = run.samples + (run.apu.acc + gain) / 4194304
  pending : run'.apu.batch.length < size
  batches : ∀ b ∈ run'.done, b ∈ run.done ∨ b.length = size

theorem emitSample_acc (size : Nat) (smp : Sample) (run : ApuRun) : (emitSample size smp run).apu.acc = run.apu.acc := by
  unfold emitSample
  dsimp only
  split_ifs <;> rfl

theorem emitSample_samples (size : Nat) (smp : Sample) (run : ApuRun) :
    (emitSample size smp run).samples = run.samples + 1 := by
  unfold emitSample ApuRun.samples
  dsimp only
  split_ifs <;> simp <;> omega

theorem emitSample_pending {size : Nat} (smp : Sample) {run : ApuRun} (h : run.apu.batch.length < size) :
    (emitSample size smp run).apu.batch.length < size := by
  unfold emitSample
  dsimp only
  split_ifs with hfull
  · exact Nat.zero_lt_of_lt h
  · exact Nat.lt_of_not_le hfull

/-- A batch goes out when it is just full. -/
theorem emitSample_batches {size : Nat} (smp : Sample) {run : ApuRun} (h : run.apu.batch.length < size) :
    ∀ b ∈ (emitSample size smp run).done, b ∈ run.done ∨ b.length = size := by
  unfold emitSample
  dsimp only
  split_ifs with hfull
  · intro b hb
    rcases List.mem_append.mp hb with hb | hb
    · exact .inl hb
    · obtain rfl := List.mem_singleton.mp hb
      rw [List.length_append, List.length_singleton] at hfull ⊢
      exact .inr (by omega)
  · exact fun b hb => .inl hb

/-- One cycle gives the accumulator the rate, and a whole second of clock becomes a sample. -/
theorem apuTick_stream (r : ApuRegs) {rate size : Nat} (hrate : rate ≤ 4194304) {run : ApuRun}
    (hacc : run.apu.acc < 4194304) (hpending : run.apu.batch.length < size) :
    StreamStep size rate run (apuTick r rate size run) := by
  have hkeep : (channelsTick r run.apu).acc = run.apu.acc ∧ (channelsTick r run.apu).batch = run.apu.batch := ⟨rfl, rfl⟩
  unfold apuTick Config.clockHz
  dsimp only
  rw [hkeep.1]
  split_ifs with hdue
  · refine ⟨?_, ?_, emitSample_pending _ hpending, emitSample_batches _ hpending⟩
    · rw [emitSample_acc]
      dsimp only
      omega
    · rw [emitSample_samples]
      show run.samples + 1 = _
      omega
  · refine ⟨?_, ?_, hpending, fun b hb => .inl hb⟩
    · dsimp only
      omega
    · show run.samples = _
      omega

theorem StreamStep.trans {size m n : Nat} {run run' run'' : ApuRun} (h : StreamStep size m run run')
    (h' : StreamStep size n run' run'') : StreamStep size (m + n) run run'' where
  acc := by
    rw [h'.acc, h.acc]
    omega
  samples := by
    rw [h'.samples, h.samples, h.acc]
    omega
  pending := h'.pending
  batches b hb := (h'.batches b hb).elim (h.batches b) .inr

theorem apuTicks_stream (r : ApuRegs) {rate size : Nat} (hrate : rate ≤ 4194304) (n : Nat) {run : ApuRun}
    (hacc : run.apu.acc < 4194304) (hpending : run.apu.batch.length < size) :
    StreamStep size (n * rate) run (iterate (apuTick r rate size) n run) := by
  induction n generalizing run with
  | zero => exact ⟨by rw [iterate]; omega, by rw [iterate]; omega, hpending, fun b hb => .inl hb⟩
  | succ n ih =>
    have htick := apuTick_stream r hrate hacc hpending
    have hacc' := htick.acc
    rw [Nat.succ_mul, Nat.add_comm]
    exact htick.trans (ih (by omega) htick.pending)

/-- Settles O52: the stream of the n ticks of an advance, from the batches handed over before it. -/
theorem sampleClock : Obligations.SampleClock := by
  intro s n hlaunch hacc hpending
  obtain ⟨hacc', hsamples, hpending', hbatches⟩ :=
    apuTicks_stream (ApuRegs.ofMemory s.mem) hlaunch.rateMax n (run := { apu := s.apu, done := s.out.audio }) hacc hpending
  exact ⟨hacc', hsamples, hpending', hbatches⟩

/-! ## Length (R501, R502) -/

@[simp] theorem envelopeTick_en (r : ChannelRegs) (ch : Channel) : (envelopeTick r ch).en = ch.en := by
  unfold envelopeTick
  split_ifs <;> rfl

@[simp] theorem envelopeTick_ltimer (r : ChannelRegs) (ch : Channel) : (envelopeTick r ch).ltimer = ch.ltimer := by
  unfold envelopeTick
  split_ifs <;> rfl

@[simp] theorem dutyTick_en (ch : Channel) : (dutyTick ch).en = ch.en := by
  unfold dutyTick
  split_ifs <;> rfl

@[simp] theorem dutyTick_ltimer (ch : Channel) : (dutyTick ch).ltimer = ch.ltimer := by
  unfold dutyTick
  split_ifs <;> rfl

theorem channel2Tick_of_disabled (r : ChannelRegs) {ch : Channel} (h : ch.en = false) : channel2Tick r ch = ch := by
  simp [channel2Tick, h]

/-- An enabled channel counts its length, and only the length part can disable it. -/
theorem channel2Tick_of_enabled (r : ChannelRegs) {ch : Channel} (h : ch.en = true) :
    (channel2Tick r ch).en = (lengthTick r ch).en ∧ (channel2Tick r ch).ltimer = ch.ltimer + 1 := by
  cases hl : (lengthTick r ch).en <;> simp [channel2Tick, h, hl] <;> rfl

theorem channel2Ticks_of_disabled (r : ChannelRegs) {ch : Channel} (h : ch.en = false) (n : Nat) :
    iterate (channel2Tick r) n ch = ch :=
  iterate_keeps _ (· = ch) (fun _ hx => by rw [hx, channel2Tick_of_disabled r h]) n ch rfl

/-- With the length disabled no cycle stops the channel. -/
theorem channel2Ticks_of_lengthOff (r : ChannelRegs) (hoff : r.lengthOn = false) (n : Nat) {ch : Channel} (h : ch.en = true) :
    (iterate (channel2Tick r) n ch).en = true ∧ (iterate (channel2Tick r) n ch).ltimer = ch.ltimer + n := by
  induction n generalizing ch with
  | zero => exact ⟨h, rfl⟩
  | succ n ih =>
    obtain ⟨hen, htimer⟩ := channel2Tick_of_enabled r h
    obtain ⟨hen', htimer'⟩ := ih (ch := channel2Tick r ch) (by simp [hen, lengthTick, hoff])
    exact ⟨hen', htimer'.trans (by omega)⟩

/-- With the length enabled the channel runs while its timer is below the time of its length. -/
theorem channel2Ticks_of_lengthOn (r : ChannelRegs) (hon : r.lengthOn = true) (n : Nat) {ch : Channel} (h : ch.en = true)
    (hn : 0 < n) : (iterate (channel2Tick r) n ch).en = true ↔ ch.ltimer + n < (64 - r.length) * 16384 := by
  induction n generalizing ch with
  | zero => omega
  | succ n ih =>
    obtain ⟨hen, htimer⟩ := channel2Tick_of_enabled r h
    have htick : (channel2Tick r ch).en = decide (ch.ltimer + 1 < (64 - r.length) * 16384) := by
      simp [hen, lengthTick, hon, ← decide_not]
    rw [iterate]
    by_cases hrun : ch.ltimer + 1 < (64 - r.length) * 16384
    · rw [decide_eq_true hrun] at htick
      rcases Nat.eq_zero_or_pos n with rfl | hpos
      · simpa [iterate, htick] using hrun
      · rw [ih htick hpos, htimer]
        omega
    · rw [decide_eq_false hrun] at htick
      rw [channel2Ticks_of_disabled r htick, htick]
      exact iff_of_false Bool.false_ne_true (by omega)

/-- Settles O53, by the three cases of a channel: disabled, length off, length on. -/
theorem channelLength : Obligations.ChannelLength :=
  fun r _ n => ⟨fun h => channel2Ticks_of_disabled r h n, fun h hoff => channel2Ticks_of_lengthOff r hoff n h,
    fun h hon hn => channel2Ticks_of_lengthOn r hon n h hn⟩

/-! ## A write to NR14 (R510, R511) -/

theorem setFreqHigh_toNat (v : Byte) (ch : Channel) :
    (setFreqHigh v ch).freq.toNat = v.toNat % 8 * 256 + ch.freq.toNat % 256 := by
  show (BitVec.ofNat 11 _).toNat = _
  rw [BitVec.toNat_ofNat, Nat.mod_eq_of_lt (by omega)]

theorem triggerChannel_vol (nrx2 : Byte) (ch : Channel) : (triggerChannel nrx2 ch).vol.toNat = nrx2.toNat / 16 := by
  show (BitVec.ofNat 4 _).toNat = _
  rw [BitVec.toNat_ofNat, Nat.mod_eq_of_lt (by omega)]

/-- The APU after a write to NR14, the memory being the one with the byte stored. -/
theorem apuWrite_nr14 (v : Byte) (mem : Memory) (apu : Apu) :
    apuWrite 0xFF14 v mem apu =
      if bit v 7 then
        { apu with ch1 := triggerChannel (mem.get .m 0xFF12) (setFreqHigh v apu.ch1)
                   sweep := { shadow := (setFreqHigh v apu.ch1).freq, stimer := 0 } }
      else { apu with ch1 := setFreqHigh v apu.ch1 } := rfl

/-- Settles O54: the byte is stored, NR12 is not the byte written, and the trigger depends on bit 7. -/
theorem channelTrigger : Obligations.ChannelTrigger := by
  rintro s t v rfl
  have hnr12 : (s.setIo 0xFF14 v).io 0xFF12 = s.io 0xFF12 := State.io_setIo s 0xFF14 0xFF12 v
  have hwrite : s.memWrite 0xFF14 v = s.apuRegWrite 0xFF14 v := State.memWrite_apu s 0xFF14 v (by decide)
  have hapu : (s.memWrite 0xFF14 v).apu = apuWrite 0xFF14 v (s.setIo 0xFF14 v).mem s.apu := by rw [hwrite]; rfl
  have hio : (s.memWrite 0xFF14 v).io 0xFF14 = v := by
    rw [hwrite]
    exact State.io_setIo s 0xFF14 0xFF14 v
  refine ⟨hio, ?_⟩
  rw [hapu, apuWrite_nr14]
  cases bit v 7 with
  | true =>
    refine ⟨setFreqHigh_toNat v _, rfl, rfl, rfl, rfl, rfl, fun _ => ⟨rfl, ?_, rfl, rfl, rfl, rfl⟩, nofun⟩
    exact (triggerChannel_vol _ _).trans (congrArg (·.toNat / 16) hnr12)
  | false => exact ⟨setFreqHigh_toNat v _, rfl, rfl, rfl, rfl, rfl, nofun, fun _ => ⟨rfl, rfl⟩⟩

end Sys2Proof.Machine
end

section
/-! SUPPORT. The timer (60_exceptions.md rules R430 to R432): a tick counts TIMA exactly at the last divider value of a period, so
a period from anywhere is a quiet stretch, one counting tick and a quiet stretch. -/

namespace Sys2Proof.Machine

/-! ## One tick -/

/-- The cycles between two falls of the selected divider bit (R430). -/
def timerPeriod (tac : Byte) : Nat := 2 ^ (timerBit tac + 1)

theorem timerBit_cases (tac : Byte) : timerBit tac = 9 ∨ timerBit tac = 3 ∨ timerBit tac = 5 ∨ timerBit tac = 7 := by
  unfold timerBit
  split <;> simp

/-- The selected bit falls when all bits below it are 1 too. -/
theorem timerEdge_iff (tac : Byte) (d : Word) :
    timerEdge tac d (d + 1) = true ↔ bit tac 2 = true ∧ d.toNat % timerPeriod tac = timerPeriod tac - 1 := by
  have hnext : (d + 1).toNat = (d.toNat + 1) % 65536 := BitVec.toNat_add d 1
  have hd := d.isLt
  unfold timerEdge timerPeriod BitVec.getLsbD
  rw [Bool.and_eq_true, Bool.and_eq_true, Bool.not_eq_true', and_assoc, hnext, Nat.testBit_eq_decide_div_mod_eq,
    Nat.testBit_eq_decide_div_mod_eq, decide_eq_true_iff, decide_eq_false_iff_not]
  refine and_congr_right fun _ => ?_
  rcases timerBit_cases tac with h | h | h | h <;> rw [h] <;> omega

theorem State.timerTick_divider (s : State) : s.timerTick.divider = s.divider + 1 := by
  unfold State.timerTick State.timerCount
  dsimp only
  split_ifs <;> rfl

theorem State.timerTick_of_no_edge {s : State} (h : timerEdge (s.io 0xFF07) s.divider (s.divider + 1) = false) :
    s.timerTick = { s with divider := s.divider + 1 } := by
  unfold State.timerTick
  dsimp only
  rw [h, if_neg Bool.false_ne_true]

theorem State.timerTick_of_edge {s : State} (h : timerEdge (s.io 0xFF07) s.divider (s.divider + 1) = true) :
    s.timerTick = State.timerCount { s with divider := s.divider + 1 } := by
  unfold State.timerTick
  dsimp only
  rw [h, if_pos rfl]

/-! ## Stretches of ticks -/

theorem State.timerAdvance_divider (s : State) (n : Nat) :
    (s.timerAdvance n).divider.toNat = (s.divider.toNat + n) % 65536 := by
  unfold State.timerAdvance
  induction n generalizing s with
  | zero => exact (Nat.mod_eq_of_lt s.divider.isLt).symm
  | succ n ih =>
    have htick : s.timerTick.divider.toNat = (s.divider.toNat + 1) % 65536 := by
      rw [State.timerTick_divider]
      exact BitVec.toNat_add _ 1
    rw [iterate, ih, htick]
    omega

theorem timerPeriod_dvd (tac : Byte) : timerPeriod tac ∣ 65536 := by
  unfold timerPeriod
  rcases timerBit_cases tac with h | h | h | h <;> rw [h] <;> decide

/-- The place in the period after n cycles. -/
theorem State.timerAdvance_place (s : State) (n : Nat) (tac : Byte) :
    (s.timerAdvance n).divider.toNat % timerPeriod tac =
      (s.divider.toNat % timerPeriod tac + n) % timerPeriod tac := by
  rw [State.timerAdvance_divider, Nat.mod_mod_of_dvd _ (timerPeriod_dvd tac), Nat.mod_add_mod]

/-- A stretch that ends before the period does, or any stretch with the timer off, changes no byte. -/
theorem State.timerAdvance_mem_of_quiet (n : Nat) {s : State}
    (h : bit (s.io 0xFF07) 2 = false ∨ s.divider.toNat % timerPeriod (s.io 0xFF07) + n < timerPeriod (s.io 0xFF07)) :
    (s.timerAdvance n).mem = s.mem := by
  unfold State.timerAdvance
  induction n generalizing s with
  | zero => rfl
  | succ n ih =>
    have hedge : timerEdge (s.io 0xFF07) s.divider (s.divider + 1) = false := by
      rw [← Bool.not_eq_true, timerEdge_iff]
      rintro ⟨hon, hlast⟩
      rcases h with h | h
      · simp [hon] at h
      · omega
    rw [iterate, State.timerTick_of_no_edge hedge]
    refine ih (s := { s with divider := s.divider + 1 }) (h.imp_right fun h => ?_)
    have hplace := s.timerAdvance_place 1 (s.io 0xFF07)
    have hin : s.divider.toNat % timerPeriod (s.io 0xFF07) + 1 < timerPeriod (s.io 0xFF07) := by omega
    rw [State.timerAdvance, iterate, iterate, State.timerTick_divider, Nat.mod_eq_of_lt hin] at hplace
    show (s.divider + 1).toNat % timerPeriod (s.io 0xFF07) + n < timerPeriod (s.io 0xFF07)
    omega

theorem State.timerCount_mem_congr {s t : State} (h : t.mem = s.mem) : t.timerCount.mem = s.timerCount.mem := by
  have hio (a : Nat) : t.io a = s.io a := congrArg (Memory.get · .m a) h
  unfold State.timerCount State.requestInterrupt
  rw [hio, hio]
  split_ifs
  · simp [State.io_setIo, hio, h]
  · simp [h]

/-- One period, from any divider, counts TIMA once. -/
theorem State.timerAdvance_mem_of_period {s : State} (hon : bit (s.io 0xFF07) 2 = true) :
    (s.timerAdvance (timerPeriod (s.io 0xFF07))).mem = s.timerCount.mem := by
  have hadvance (n : Nat) := s.timerAdvance_place n (s.io 0xFF07)
  have hpos : 0 < timerPeriod (s.io 0xFF07) := Nat.two_pow_pos _
  generalize hP : timerPeriod (s.io 0xFF07) = P at *
  have hplace : s.divider.toNat % P < P := Nat.mod_lt _ hpos
  obtain ⟨before, hbefore⟩ : ∃ before, before = P - 1 - s.divider.toNat % P := ⟨_, rfl⟩
  have hsplit : P = (before + 1) + s.divider.toNat % P := by omega
  have htac (n : Nat) : (s.timerAdvance n).io 0xFF07 = s.io 0xFF07 :=
    (s.timerAdvance_frame n).io 0xFF07 (by decide) (by decide)
  have hquiet : (s.timerAdvance before).mem = s.mem := State.timerAdvance_mem_of_quiet before (.inr (by rw [hP]; omega))
  have hlast : (s.timerAdvance before).divider.toNat % P = P - 1 := by
    rw [hadvance, Nat.mod_eq_of_lt (by omega)]
    omega
  have hcount : (s.timerAdvance (before + 1)).mem = s.timerCount.mem := by
    have hedge : timerEdge ((s.timerAdvance before).io 0xFF07) (s.timerAdvance before).divider
        ((s.timerAdvance before).divider + 1) = true := by
      rw [timerEdge_iff, htac, hP]
      exact ⟨hon, hlast⟩
    rw [State.timerAdvance, iterate_succ]
    rw [← State.timerAdvance, State.timerTick_of_edge hedge]
    exact State.timerCount_mem_congr hquiet
  have hrest := State.timerAdvance_mem_of_quiet (s := s.timerAdvance (before + 1)) (s.divider.toNat % P) (.inr (by
    rw [htac, hP, hadvance, hbefore, show s.divider.toNat % P + (P - 1 - s.divider.toNat % P + 1) = P by omega,
      Nat.mod_self]
    omega))
  rw [hsplit, State.timerAdvance, iterate_add]
  exact hrest.trans hcount

/-! ## DIV, TIMA and IF (R43, R431) -/

theorem hiByte_toNat (v : Word) : (hiByte v).toNat = v.toNat / 256 := by
  rw [hiByte, BitVec.toNat_setWidth, BitVec.toNat_ushiftRight, Nat.shiftRight_eq_div_pow]
  omega

theorem State.timerCount_of_not_full {s : State} (h : s.io 0xFF05 ≠ 0xFF) :
    s.timerCount.io 0xFF05 = s.io 0xFF05 + 1 ∧ s.timerCount.io 0xFF0F = s.io 0xFF0F := by
  rw [State.timerCount, if_neg h]
  exact ⟨State.io_setIo s 0xFF05 0xFF05 _, State.io_setIo s 0xFF05 0xFF0F _⟩

theorem State.timerCount_of_full {s : State} (h : s.io 0xFF05 = 0xFF) :
    s.timerCount.io 0xFF05 = s.io 0xFF06 ∧ s.timerCount.io 0xFF0F = s.io 0xFF0F ||| 0x04 := by
  rw [State.timerCount, if_pos h, State.requestInterrupt]
  simp [State.io_setIo]
  rfl

/-- Settles O47: DIV is the divider's own rule; with the timer off every stretch is quiet, and with it on a period counts
TIMA once, which is R431's count or reload. -/
theorem timerAndDivider : Obligations.TimerAndDivider := by
  intro s n v
  have hio {t : State} (h : (s.timerAdvance n).mem = t.mem) (a : Nat) : (s.timerAdvance n).io a = t.io a :=
    congrArg (Memory.get · .m a) h
  refine ⟨State.memWrite_div s 0xFF04 v rfl, ?_, s.timerAdvance_divider n, fun hoff => ?_, fun hon hn => ?_⟩
  · have hread : s.memRead 0xFF04 = hiByte s.divider := State.memRead_high s 0xFF04 (by decide)
    rw [hread, hiByte_toNat]
  · have hquiet := State.timerAdvance_mem_of_quiet n (.inl hoff)
    exact ⟨hio hquiet _, hio hquiet _⟩
  · have hperiod : n = timerPeriod (s.io 0xFF07) := by
      rw [hn, timerPeriod, timerBit]
      have hsel : (s.io 0xFF07).toNat % 4 < 4 := Nat.mod_lt _ (by decide)
      generalize (s.io 0xFF07).toNat % 4 = sel at *
      interval_cases sel <;> rfl
    have hcount := hperiod ▸ State.timerAdvance_mem_of_period hon
    have htima := hio hcount 0xFF05
    have hif := hio hcount 0xFF0F
    exact ⟨fun h => (State.timerCount_of_not_full h).imp htima.trans hif.trans,
      fun h => (State.timerCount_of_full h).imp htima.trans hif.trans⟩

end Sys2Proof.Machine
end

section
/-! SUPPORT. The joypad and the palette ports (10_state.md rules R41, R71, R72, 60_exceptions.md rule R441): the bits of P1 one by
one, and the two stores of a write to a palette data port. -/

namespace Sys2Proof.Machine

/-! ## P1 (R41) -/

theorem bit_lowNibble (i : Nat) (hi : i < 8) : bit 0x0F i = decide (i < 4) := by
  interval_cases i <;> rfl

/-- The four lines a group of buttons drives: high while it is not selected, low for each button held. -/
theorem bit_joypadGroup (off : Bool) (held : Byte) (i : Nat) (hi : i < 8) :
    bit (if off then 0x0F else ~~~held &&& 0x0F) i = (decide (i < 4) && (off || !bit held i)) := by
  cases off with
  | true => rw [if_pos rfl, bit_lowNibble i hi, Bool.true_or, Bool.and_true]
  | false =>
    have hnot : bit (~~~held) i = !bit held i := by simp [bit, hi]
    rw [if_neg Bool.false_ne_true, bit_and, hnot, bit_lowNibble i hi, Bool.and_comm, Bool.false_or]

/-- The read value of P1, bit by bit. -/
theorem State.bit_joypadRead (s : State) (i : Nat) (hi : i < 8) :
    bit s.joypadRead i = (decide (6 ≤ i) || bit (s.io 0xFF00) i && decide (i = 4 ∨ i = 5) ||
      decide (i < 4) && ((bit (s.io 0xFF00) 4 || !bit s.pressed i) && (bit (s.io 0xFF00) 5 || !bit s.pressed (i + 4)))) := by
  have hfixed : bit 0xC0 i = decide (6 ≤ i) := by interval_cases i <;> rfl
  have hselect : bit 0x30 i = decide (i = 4 ∨ i = 5) := by interval_cases i <;> rfl
  have hshift : bit (s.pressed >>> 4) i = bit s.pressed (i + 4) := by rw [Nat.add_comm]; exact BitVec.getLsbD_ushiftRight _ _ _
  unfold State.joypadRead
  dsimp only
  rw [bit_or, bit_or, bit_and, bit_and, bit_joypadGroup _ _ i hi, bit_joypadGroup _ _ i hi, bit_and, hshift, hfixed, hselect,
    bit_lowNibble i hi]
  cases decide (i < 4) <;> simp

/-- Settles O45: an event sets or clears one bit of `pressed`, and the read of P1 is taken bit by bit. -/
theorem joypadLines : Obligations.JoypadLines := by
  intro s btn v
  have hread : s.memRead 0xFF00 = s.joypadRead := State.memRead_high s 0xFF00 (by decide)
  have hbit := s.bit_joypadRead
  refine ⟨fun i hi => bit_setBit s.pressed btn.index i hi, fun i hi => State.bit_requestInterrupt_io _ 4 i hi,
    fun i hi => bit_resetBit s.pressed btn.index i hi, rfl, ?_, ?_, ?_, ?_, fun i hi => ?_,
    State.memWrite_p1 s 0xFF00 v rfl⟩ <;> rw [hread]
  · simp [hbit 7]
  · simp [hbit 6]
  · simp [hbit 5]
  · simp [hbit 4]
  · have h6 : ¬ 6 ≤ i := by omega
    have h45 : ¬ (i = 4 ∨ i = 5) := by omega
    rw [hbit i (by omega), decide_eq_true hi, decide_eq_false h6, decide_eq_false h45]
    grind

/-! ## The palette data ports (R71, R72) -/

/-- The index register after a write with auto-increment: its low six bits move on by one, its high two stay. -/
theorem paletteIndex_next (idx : Byte) :
    ((idx &&& 0xC0) ||| ((idx + 1) &&& 0x3F)).toNat / 64 = idx.toNat / 64 ∧
      ((idx &&& 0xC0) ||| ((idx + 1) &&& 0x3F)).toNat % 64 = (idx.toNat % 64 + 1) % 64 := by
  revert idx
  decide

/-- What a write to a palette data port leaves, the palette being another store than the index register's. -/
theorem State.paletteWrite_spec {s t : State} {pal : Store} (hpal : pal ≠ .m) (idx : Nat) (v : Byte)
    (ht : t = s.paletteWrite pal idx v) :
    t = { s with mem := t.mem } ∧ t.mem.get pal ((s.io idx).toNat % 64) = v ∧
    (t.io idx).toNat / 64 = (s.io idx).toNat / 64 ∧
    (t.io idx).toNat % 64 =
      (if bit (s.io idx) 7 = true then ((s.io idx).toNat % 64 + 1) % 64 else (s.io idx).toNat % 64) ∧
    (∀ st o, ¬ (st = pal ∧ o = (s.io idx).toNat % 64) → ¬ (st = .m ∧ o = idx) → t.mem.get st o = s.mem.get st o) := by
  have hidx : (s.store pal ((s.io idx).toNat % 64) v).io idx = s.io idx :=
    Memory.get_set_other _ _ _ _ _ _ (fun h => hpal h.1)
  have hother (st : Store) (o : Nat) (h : ¬ (st = pal ∧ o = (s.io idx).toNat % 64)) :
      (s.mem.set pal ((s.io idx).toNat % 64) v).get st o = s.mem.get st o :=
    Memory.get_set_other _ _ _ _ _ _ (fun h' => h ⟨h'.1.symm, h'.2.symm⟩)
  subst ht
  unfold State.paletteWrite State.paletteIndex
  dsimp only
  by_cases hinc : bit (s.io idx) 7 = true
  · obtain ⟨hhigh, hlow⟩ := paletteIndex_next (s.io idx)
    rw [if_pos hinc, if_pos hinc, State.io_setIo, if_pos rfl]
    refine ⟨rfl, ?_, hhigh, hlow, fun st o h hm => ?_⟩
    · rw [State.setIo_mem, Memory.get_set_other _ _ _ _ _ _ (fun h => hpal h.1.symm), State.store_mem, Memory.get_set_same]
    · rw [State.setIo_mem, Memory.get_set_other _ _ _ _ _ _ (fun h' => hm ⟨h'.1.symm, h'.2.symm⟩)]
      exact hother st o h
  · rw [if_neg hinc, if_neg hinc, hidx]
    exact ⟨rfl, Memory.get_set_same _ _ _ _, rfl, rfl, fun st o h _ => hother st o h⟩

/-- Settles O46: both ports are one palette write, and a read takes the byte at the index. -/
theorem palettePorts : Obligations.PalettePorts := by
  rintro s t v pal idx port (⟨rfl, rfl, rfl⟩ | ⟨rfl, rfl, rfl⟩) ht
  · obtain ⟨hmem, hrest⟩ := State.paletteWrite_spec (by decide) _ v (ht.trans (State.memWrite_bcpd s _ v rfl))
    exact ⟨hmem, State.memRead_high s 0xFF69 (by decide), hrest⟩
  · obtain ⟨hmem, hrest⟩ := State.paletteWrite_spec (by decide) _ v (ht.trans (State.memWrite_ocpd s _ v rfl))
    exact ⟨hmem, State.memRead_high s 0xFF6B (by decide), hrest⟩

end Sys2Proof.Machine
end

section
/-! SUPPORT. The load (70_reset_and_hazards.md rules R550 to R553): its refusals, and the image as the machine it builds reads it. -/

namespace Sys2Proof.Machine

/-! ## The header (R112, R113) -/

theorem mapperOf_of_unsupported : ∀ {cartType : Byte}, 3 < cartType.toNat → mapperOf cartType = none := by decide

theorem mapperOf_of_supported : ∀ {cartType : Byte}, cartType.toNat ≤ 3 →
    mapperOf cartType = some (if cartType = 0 then .romOnly else .mbc1) := by decide

theorem ramBytesOf_of_unsupported : ∀ {ramSize : Byte}, 5 < ramSize.toNat → ramBytesOf ramSize = none := by decide

theorem ramBytesOf_of_supported : ∀ {ramSize : Byte}, ramSize.toNat ≤ 5 → (ramBytesOf ramSize).isSome = true := by decide

theorem isColor_iff (cgbFlag : Byte) : isColor cgbFlag = true ↔ cgbFlag = 0x80 ∨ cgbFlag = 0xC0 := by
  simp [isColor]

/-! ## The image (R121, R550) -/

/-- With the reset bank registers the two windows show the image's first 32 KiB, whatever the mapper. -/
theorem State.romOffset_of_mbcReset {s : State} (h : s.mbc = Mbc1.reset) {a : Nat} (ha : a < 0x8000) : s.romOffset a = a := by
  cases hm : s.cart.mapper with
  | romOnly => exact s.romOffset_of_romOnly a hm
  | mbc1 =>
    by_cases hlow : a < 0x4000
    · exact s.romOffset_low a hm hlow
    · rw [s.romOffset_high a hm hlow, h]
      simp [Mbc1.reset]
      omega

/-- Past its end the image reads 0xFF. -/
theorem resetMachine_memRead_image (p : LaunchParams) (rom : List Byte) (cart : Cartridge) (hlen : cart.romLen = rom.length)
    (a : Word) (ha : a.toNat < 0x8000) : (resetMachine p rom cart).memRead a = rom.getD a.toNat 0xFF := by
  have hget : (resetMachine p rom cart).mem.get .rom a.toNat = rom.getD a.toNat unlistedByte := by
    simpa [Memory.get, Memory.array, resetMachine] using Mem.get_ofBytes rom 0 a.toNat
  rw [State.memRead_of_romOffset ha (State.romOffset_of_mbcReset rfl ha), hget]
  show (if a.toNat < cart.romLen then _ else _) = _
  rw [hlen]
  split_ifs with h
  · rw [List.getD_eq_getElem _ _ h, List.getD_eq_getElem _ _ h]
  · exact (List.getD_eq_default _ _ (Nat.le_of_not_lt h)).symm

/-- Settles O55: each refusal is one case of `load`, and the machine of the last case reads its image. -/
theorem loadRefusals : Obligations.LoadRefusals := by
  intro p rom
  refine ⟨fun hrom => ?_, fun hrom hshort => ?_, fun hrom hlen htype => ?_, fun hrom hlen htype hsize => ?_,
    fun hrom hlen htype hsize => ?_⟩
  · rw [load, hrom]
  · simp only [load, hrom, if_pos hshort]
  · simp only [load, hrom, if_neg (Nat.not_lt.mpr hlen), mapperOf_of_unsupported htype]
  · simp only [load, hrom, if_neg (Nat.not_lt.mpr hlen), mapperOf_of_supported htype, ramBytesOf_of_unsupported hsize]
  · obtain ⟨ramBytes, hram⟩ := Option.isSome_iff_exists.mp (ramBytesOf_of_supported hsize)
    simp only [load, hrom, if_neg (Nat.not_lt.mpr hlen), mapperOf_of_supported htype, hram]
    exact ⟨_, rfl, rfl, isColor_iff _, resetMachine_memRead_image p rom _ rfl⟩

end Sys2Proof.Machine
end

section
/-! SUPPORT. The invariant of legal states (10_state.md rules R33, R62, R75, R78, R79, 61_devices_ppu.md rule R450): each part of a
step keeps it, and the reset machines have it. -/

namespace Sys2Proof.Machine

/-! ## Bus writes -/

/-- No selection of BANKLO is 0 (R75, R132). -/
theorem mbc1Write_bankLo_ne_zero (a : Nat) (v : Byte) {mbc : Mbc1} (h : mbc.bankLo ≠ 0) : (mbc1Write a v mbc).bankLo ≠ 0 := by
  have hne {b : BitVec 5} : b ≠ 0 ↔ b.toNat ≠ 0 := (BitVec.toNat_inj (y := 0)).not.symm
  rw [hne, mbc1Write_bankLo]
  split_ifs with hsel hzero
  · decide
  · exact hzero
  · exact hne.mp h

theorem State.memWrite_bankLo_ne_zero {s : State} (a : Word) (v : Byte) (h : s.mbc.bankLo ≠ 0) :
    (s.memWrite a v).mbc.bankLo ≠ 0 := by
  by_cases hrom : a.toNat < 0x8000
  · rw [State.memWrite_rom _ _ _ hrom, State.mapperWrite]
    cases s.cart.mapper with
    | romOnly => exact h
    | mbc1 => exact mbc1Write_bankLo_ne_zero _ v h
  · rwa [(s.memWrite_frame a v).mbc (Nat.le_of_not_lt hrom)]

/-- A bus write reaches `M` at its own address, or below it for video RAM and OAM, or at a palette index. -/
theorem State.mem_writeCells_m {s : State} {a : Word} {o : Nat} (h : (Store.m, o) ∈ s.writeCells a) :
    o = a.toNat ∨ o < 0xFF00 ∨ o = 0xFF68 ∨ o = 0xFF6A := by
  have := a.isLt
  unfold State.writeCells State.vramCell at h
  dsimp only at h
  split_ifs at h <;> simp at h <;> grind

/-- Only a write to STAT reaches its stored byte, and it masks bits 2-0 (R62). -/
theorem State.memWrite_stat_low {s : State} (a : Word) (v : Byte) (h : (s.io 0xFF41).toNat % 8 = 0) :
    ((s.memWrite a v).io 0xFF41).toNat % 8 = 0 := by
  by_cases hstat : a.toNat = 0xFF41
  · rw [State.memWrite_stat _ _ _ hstat, State.io_setIo, if_pos hstat]
    exact toNat_and_mod_two_pow v 0xF8 3 rfl
  · have hcell : (Store.m, 0xFF41) ∉ s.writeCells a := fun hm => by
      have := State.mem_writeCells_m hm
      omega
    rwa [State.io, (s.memWrite_frame a v).cells .m 0xFF41 hcell]

/-- The APU registers' side effects are on the channels and the sweep (R510). -/
theorem apuWrite_stream (a : Nat) (v : Byte) (mem : Memory) (apu : Apu) :
    (apuWrite a v mem apu).acc = apu.acc ∧ (apuWrite a v mem apu).batch = apu.batch := by
  unfold apuWrite
  dsimp only
  split_ifs <;> exact ⟨rfl, rfl⟩

theorem State.memWrite_stream (s : State) (a : Word) (v : Byte) :
    (s.memWrite a v).apu.acc = s.apu.acc ∧ (s.memWrite a v).apu.batch = s.apu.batch := by
  by_cases hapu : 0xFF10 ≤ a.toNat ∧ a.toNat ≤ 0xFF26
  · rw [State.memWrite_apu _ _ _ hapu]
    exact apuWrite_stream _ _ _ _
  · rw [(s.memWrite_frame a v).apu (by omega)]
    exact ⟨rfl, rfl⟩

theorem State.Inv.memWrite {s : State} (h : s.Inv) (a : Word) (v : Byte) : (s.memWrite a v).Inv := by
  have hframe := s.memWrite_frame a v
  obtain ⟨hacc, hbatch⟩ := s.memWrite_stream a v
  exact {
    memory := s.memWrite_wf a v h.memory
    flagNibble := by rw [s.memWrite_cpu a v]; exact h.flagNibble
    bankLo := State.memWrite_bankLo_ne_zero a v h.bankLo
    stat := State.memWrite_stat_low a v h.stat
    ppu := hframe.ppu ▸ h.ppu
    acc := hacc ▸ h.acc
    batch := by rw [hbatch, hframe.launch]; exact h.batch
    launch := hframe.launch ▸ h.launch }

/-! ## The devices -/

/-- A device keeps the invariant when it keeps the PPU legal and the sample stream in its ranges. -/
theorem DeviceFrame.inv {s t : State} (hframe : DeviceFrame s t) (h : s.Inv) (hppu : t.ppu.Legal) (hacc : t.apu.acc < 4194304)
    (hbatch : t.apu.batch.length < s.launch.batchSize) : t.Inv where
  memory := hframe.wf h.memory
  flagNibble := by rw [hframe.cpu]; exact h.flagNibble
  bankLo := by rw [hframe.mbc]; exact h.bankLo
  stat := by rw [hframe.io 0xFF41 (by decide) (by decide)]; exact h.stat
  ppu := hppu
  acc := hacc
  batch := by rwa [hframe.launch]
  launch := hframe.launch ▸ h.launch

theorem State.Inv.setIf {s : State} (h : s.Inv) (v : Byte) : (s.setIo 0xFF0F v).Inv :=
  (DeviceFrame.setIo s 0xFF0F v (.inr rfl)).inv h h.ppu h.acc h.batch

theorem State.Inv.timerAdvance {s : State} (h : s.Inv) (n : Nat) : (s.timerAdvance n).Inv := by
  have hframe := s.timerAdvance_frame n
  refine hframe.toDeviceFrame.inv h ?_ ?_ ?_
  · exact hframe.ppu ▸ h.ppu
  · exact hframe.apu ▸ h.acc
  · exact hframe.apu ▸ h.batch

theorem State.Inv.ppuAdvance {s : State} (h : s.Inv) (n : Nat) : (s.ppuAdvance n).Inv := by
  have hframe := s.ppuAdvance_frame n
  refine hframe.toDeviceFrame.inv h (ppuPosition s n h.ppu).1 ?_ ?_
  · exact hframe.apu ▸ h.acc
  · exact hframe.apu ▸ h.batch

theorem State.Inv.apuAdvance {s : State} (h : s.Inv) (n : Nat) : (s.apuAdvance n).Inv := by
  obtain ⟨hacc, -, hpending, -⟩ := sampleClock s n h.launch h.acc h.batch
  exact (s.apuAdvance_frame n).inv h h.ppu (hacc ▸ Nat.mod_lt _ (by decide)) hpending

/-! ## The step -/

theorem kept_inv : Kept (fun s t => s.Inv → t.Inv) where
  refl _ h := h
  trans h h' hs := h' (h hs)
  cpu _ _ _ hf h := { h with flagNibble := hf.elim (fun hf => hf ▸ h.flagNibble) id }
  out _ _ h := { h with }
  pressed _ _ h := { h with }
  input _ _ _ h := { h with launch := { h.launch with } }
  memWrite _ a v h := h.memWrite a v
  setIf _ v h := h.setIf v
  timer _ n h := h.timerAdvance n
  ppu _ n h := h.ppuAdvance n
  apu _ n h := h.apuAdvance n

/-- Settles O57: each part of a step keeps the invariant, which the fault record does not enter. -/
theorem invariantKept : Obligations.InvariantKept :=
  fun _ _ hs h => kept_inv.step (fun _ _ _ h => { h with }) h hs

/-! ## Reset (R550, R551) -/

theorem resetM_wf (initM : List Host.Cell) : (resetM initM).wf = true := by
  have h := Mem.wf_foldl_set resetTable (fun _ => true) _ (Mem.wf_ofCells 0x10000 initM)
  simpa [resetM] using h

theorem initialEram_wf (battery : Bool) (eramBytes : Nat) (save : Option (List Byte)) :
    (initialEram battery eramBytes save).wf = true := by
  unfold initialEram
  split
  · rfl
  · split
    · exact Mem.wf_ofBytes _
    · rfl

theorem Ppu.reset_legal : Ppu.reset.Legal := ⟨by decide, by decide, rfl⟩

theorem resetMachine_inv (p : LaunchParams) (rom : List Byte) (cart : Cartridge) (h : p.ok = true) :
    (resetMachine p rom cart).Inv where
  memory := by
    simp [resetMachine, Memory.wf, resetM_wf, initialEram_wf, Mem.wf_ofBytes, Mem.wf_ofCells]
  flagNibble := by
    cases hc : cart.colorMode with
    | false => rw [resetMachine_cpu_of_mono p rom cart hc]; rfl
    | true => rw [resetMachine_cpu_of_color p rom cart hc]; rfl
  bankLo := (by decide : Mbc1.reset.bankLo ≠ 0)
  stat := by rw [resetMachine_io_of_mem p rom cart (0xFF41, 0x80) (by decide)]; rfl
  ppu := Ppu.reset_legal
  acc := (by decide : Apu.reset.acc < 4194304)
  batch := by
    obtain ⟨-, hbatch⟩ := by simpa [LaunchParams.ok] using h
    exact hbatch
  launch := by
    obtain ⟨⟨hpos, hmax⟩, hbatch⟩ := by simpa [LaunchParams.ok] using h
    exact ⟨hpos, hmax, hbatch⟩

/-- The launch parameters of `State.reset` are the model's opaque ones, in the ranges of R8 (log 4). -/
theorem State.reset_inv : State.reset.Inv where
  memory := by decide
  flagNibble := by decide
  bankLo := by decide
  stat := by decide
  ppu := Ppu.reset_legal
  acc := by decide
  batch := Nat.succ_pos _
  launch := ⟨Nat.succ_pos _, Config.sampleRatePred.isLt, Nat.succ_pos _⟩

/-- Settles O58: a load answers a reset machine or refuses. -/
theorem invariantAtReset : Obligations.InvariantAtReset := by
  refine ⟨State.reset_inv, fun p s hok hload => ?_⟩
  obtain ⟨rom, mapper, ramBytes, -, -, -, -, rfl⟩ := load_eq_next hload
  exact resetMachine_inv p rom _ hok

end Sys2Proof.Machine
end
